-- ==== Sys2Proof/Word.lean ====
section
/-! DEFINITION. The word types of the block (00_scope.md R8, 30_encoding.md R60) and nothing else. -/

namespace Sys2Proof

/-- A byte on the wire, and the `u8` operands. -/
abbrev Byte := BitVec 8

/-- A `u16`: a coordinate, a size, a packed colour (30_encoding.md R62, R76). -/
abbrev U16 := BitVec 16

/-- One request word, `REQ[135:0]` (30_encoding.md R60). -/
abbrev ReqWord := BitVec 136

end Sys2Proof
end

