-- ==== Sys2Proof/Syntax.lean ====
section
/-! DEFINITION. The thirteen operations of the block (00_scope.md R2, 30_encoding.md R61), operands in the order of the
assembly syntax (R64). A `u8` or `u16` that the spec slices, adds or sends is a bit vector; `count`, `P` and `k` are numbers
and the engine integers are integers (R62), whose ranges WellFormed.lean checks. -/

namespace Sys2Proof

/-- A request's operation with its operands, one constructor a row of spec/opcode_table.json. -/
inductive Instr where
  /-- INIT width, height, rotation (40_driver_ops.md R100). -/
  | init (width height : U16) (rotation : Byte)
  /-- SETROT m (40_driver_ops.md R101). -/
  | setrot (m : Byte)
  /-- SETWIN x0, y0, x1, y1 (40_driver_ops.md R102). -/
  | setwin (x0 y0 x1 y1 : U16)
  /-- FILLWIN x0, y0, x1, y1, @P, count (40_driver_ops.md R105). -/
  | fillwin (x0 y0 x1 y1 : U16) (buffer count : Nat)
  /-- FILLSCR color (40_driver_ops.md R106). -/
  | fillscr (color : U16)
  /-- DRAWPIX x, y, color (40_driver_ops.md R107). -/
  | drawpix (x y color : U16)
  /-- PACK565 r, g, b (40_driver_ops.md R108). -/
  | pack565 (r g b : Byte)
  /-- ENGINIT (41_engine_ops.md R120). -/
  | enginit
  /-- FRAME level (41_engine_ops.md R121). -/
  | frame (level : Bool)
  /-- WRAP i (41_engine_ops.md R122). -/
  | wrap (i : Int)
  /-- WRAPDIFF a, b (41_engine_ops.md R123). -/
  | wrapdiff (a b : Int)
  /-- COLLIDE c (41_engine_ops.md R124). -/
  | collide (c : Int)
  /-- RPOS k (41_engine_ops.md R126). -/
  | rpos (k : Nat)
  deriving DecidableEq, Repr

end Sys2Proof
end

