-- ==== Sys2Proof/WellFormed.lean ====
section
/-! DEFINITION. Which terms of `Instr` are operations of the block: every operand has the type 30_encoding.md R62 gives it.
Operands held as bit vectors have it by their own type; the checks are for those held as numbers. -/

namespace Sys2Proof

/-- `s16` (00_scope.md R8): the engine integers (30_encoding.md R62). -/
abbrev IsS16 (i : Int) : Prop := -32768 ≤ i ∧ i < 32768

/-- `u32` (00_scope.md R8): FILLWIN's count and buffer index (30_encoding.md R62). -/
abbrev IsU32 (n : Nat) : Prop := n < 2 ^ 32

/-- `u5` (00_scope.md R8): RPOS's index (30_encoding.md R62). -/
abbrev IsU5 (n : Nat) : Prop := n < 2 ^ 5

/-- The operands of an operation have the types of 30_encoding.md R62. -/
def Instr.wellFormed : Instr → Bool
  | .init _ _ _ => true
  | .setrot _ => true
  | .setwin _ _ _ _ => true
  | .fillwin _ _ _ _ buffer count => decide (IsU32 buffer) && decide (IsU32 count)
  | .fillscr _ => true
  | .drawpix _ _ _ => true
  | .pack565 _ _ _ => true
  | .enginit => true
  | .frame _ => true
  | .wrap i => decide (IsS16 i)
  | .wrapdiff a b => decide (IsS16 a) && decide (IsS16 b)
  | .collide c => decide (IsS16 c)
  | .rpos k => decide (IsU5 k)

end Sys2Proof
end

