-- ==== Sys2Proof/Decode.lean ====
section
/-! DEFINITION. The request encoding (30_encoding.md R60 to R63): the decoder, total on every 136-bit word, and the encoder
written from the same tables. -/

namespace Sys2Proof

/-- Why a word is no operation. 30_encoding.md R63: a reserved OP value. -/
inductive DecodeError where
  /-- `Refuse(ReservedOpcode)`, with the OP value (30_encoding.md R63, 60_exceptions.md R151). -/
  | reservedOpcode (op : Byte)
  deriving DecidableEq, Repr

/-- OP, bits 7:0 (30_encoding.md R60). -/
def fieldOp (w : ReqWord) : Byte := w.extractLsb' 0 8
/-- A, bits 23:8 (30_encoding.md R60). -/
def fieldA (w : ReqWord) : U16 := w.extractLsb' 8 16
/-- B, bits 39:24 (30_encoding.md R60). -/
def fieldB (w : ReqWord) : U16 := w.extractLsb' 24 16
/-- C, bits 55:40 (30_encoding.md R60). -/
def fieldC (w : ReqWord) : U16 := w.extractLsb' 40 16
/-- D, bits 71:56 (30_encoding.md R60). -/
def fieldD (w : ReqWord) : U16 := w.extractLsb' 56 16
/-- N, bits 103:72 (30_encoding.md R60). -/
def fieldN (w : ReqWord) : BitVec 32 := w.extractLsb' 72 32
/-- P, bits 135:104 (30_encoding.md R60). -/
def fieldP (w : ReqWord) : BitVec 32 := w.extractLsb' 104 32

/-- The low byte of a field: `m`, `rotation`, `r`, `g`, `b` (30_encoding.md R62). -/
def lowByte (v : U16) : Byte := v.extractLsb' 0 8

/-- `toS16` (00_scope.md R8): a field read as two's complement. -/
def toS16 (v : U16) : Int := v.toInt

/-- The operation a request word stands for. The decoder looks at OP only, and reads the fields the operation uses
(30_encoding.md R61, R62); a field an operation does not use is ignored. -/
def decode (w : ReqWord) : Except DecodeError Instr :=
  match (fieldOp w).toNat with
  | 0x01 => .ok (.init (fieldA w) (fieldB w) (lowByte (fieldC w)))
  | 0x02 => .ok (.setrot (lowByte (fieldA w)))
  | 0x03 => .ok (.setwin (fieldA w) (fieldB w) (fieldC w) (fieldD w))
  | 0x04 => .ok (.fillwin (fieldA w) (fieldB w) (fieldC w) (fieldD w) (fieldP w).toNat (fieldN w).toNat)
  | 0x05 => .ok (.fillscr (fieldC w))
  | 0x06 => .ok (.drawpix (fieldA w) (fieldB w) (fieldC w))
  | 0x07 => .ok (.pack565 (lowByte (fieldA w)) (lowByte (fieldB w)) (lowByte (fieldC w)))
  | 0x10 => .ok .enginit
  | 0x11 => .ok (.frame ((fieldA w).getLsbD 0))
  | 0x12 => .ok (.wrap (toS16 (fieldA w)))
  | 0x13 => .ok (.wrapdiff (toS16 (fieldA w)) (toS16 (fieldB w)))
  | 0x14 => .ok (.collide (toS16 (fieldA w)))
  | 0x15 => .ok (.rpos ((fieldA w).extractLsb' 0 5).toNat)
  | _ => .error (.reservedOpcode (fieldOp w))

/-- The operation code of an operation (30_encoding.md R61). -/
def opcode : Instr → Byte
  | .init _ _ _ => 0x01
  | .setrot _ => 0x02
  | .setwin _ _ _ _ => 0x03
  | .fillwin _ _ _ _ _ _ => 0x04
  | .fillscr _ => 0x05
  | .drawpix _ _ _ => 0x06
  | .pack565 _ _ _ => 0x07
  | .enginit => 0x10
  | .frame _ => 0x11
  | .wrap _ => 0x12
  | .wrapdiff _ _ => 0x13
  | .collide _ => 0x14
  | .rpos _ => 0x15

/-- The OP values that are operations; every other is reserved (30_encoding.md R61, R63). -/
def assignedOps : List Byte :=
  [0x01, 0x02, 0x03, 0x04, 0x05, 0x06, 0x07, 0x10, 0x11, 0x12, 0x13, 0x14, 0x15]

/-- A request word from its fields (30_encoding.md R60). -/
def packFields (op : Byte) (a b c d : U16) (n p : BitVec 32) : ReqWord :=
  p ++ n ++ d ++ c ++ b ++ a ++ op

/-- A byte operand in a 16-bit field, the ignored upper bits 0. -/
def byteField (v : Byte) : U16 := v.setWidth 16

/-- The word of an operation, with 0 in every field and bit it does not use (30_encoding.md R60 to R62). -/
def encode : Instr → ReqWord
  | .init width height rotation => packFields 0x01 width height (byteField rotation) 0 0 0
  | .setrot m => packFields 0x02 (byteField m) 0 0 0 0 0
  | .setwin x0 y0 x1 y1 => packFields 0x03 x0 y0 x1 y1 0 0
  | .fillwin x0 y0 x1 y1 buffer count =>
      packFields 0x04 x0 y0 x1 y1 (BitVec.ofNat 32 count) (BitVec.ofNat 32 buffer)
  | .fillscr color => packFields 0x05 0 0 color 0 0 0
  | .drawpix x y color => packFields 0x06 x y color 0 0 0
  | .pack565 r g b => packFields 0x07 (byteField r) (byteField g) (byteField b) 0 0 0
  | .enginit => packFields 0x10 0 0 0 0 0 0
  | .frame level => packFields 0x11 (BitVec.ofNat 16 level.toNat) 0 0 0 0 0
  | .wrap i => packFields 0x12 (BitVec.ofInt 16 i) 0 0 0 0 0
  | .wrapdiff a b => packFields 0x13 (BitVec.ofInt 16 a) (BitVec.ofInt 16 b) 0 0 0 0
  | .collide c => packFields 0x14 (BitVec.ofInt 16 c) 0 0 0 0 0
  | .rpos k => packFields 0x15 (BitVec.ofNat 16 k) 0 0 0 0 0

/-- The bits a request with this OP uses: OP and the fields of 30_encoding.md R61, less the bits R62 says are ignored. -/
def usedBits (op : Byte) : ReqWord :=
  match op.toNat with
  | 0x01 => packFields 0xFF 0xFFFF 0xFFFF 0x00FF 0 0 0
  | 0x02 => packFields 0xFF 0x00FF 0 0 0 0 0
  | 0x03 => packFields 0xFF 0xFFFF 0xFFFF 0xFFFF 0xFFFF 0 0
  | 0x04 => packFields 0xFF 0xFFFF 0xFFFF 0xFFFF 0xFFFF 0xFFFFFFFF 0xFFFFFFFF
  | 0x05 => packFields 0xFF 0 0 0xFFFF 0 0 0
  | 0x06 => packFields 0xFF 0xFFFF 0xFFFF 0xFFFF 0 0 0
  | 0x07 => packFields 0xFF 0x00FF 0x00FF 0x00FF 0 0 0
  | 0x11 => packFields 0xFF 0x0001 0 0 0 0 0
  | 0x12 => packFields 0xFF 0xFFFF 0 0 0 0 0
  | 0x13 => packFields 0xFF 0xFFFF 0xFFFF 0 0 0 0
  | 0x14 => packFields 0xFF 0xFFFF 0 0 0 0 0
  | 0x15 => packFields 0xFF 0x001F 0 0 0 0 0
  | _ => packFields 0xFF 0 0 0 0 0 0

/-- The request word of a number read as spec/opcode_table.json numbers bits: a request has one length, 136 bits, and no
byte layout of its own (30_encoding.md R60). Bits above `nbits` are 0. -/
def tableWord (nbits w : Nat) : ReqWord := BitVec.ofNat 136 (w % 2 ^ nbits)

/-- The operation the decoder reads from a word of the opcode table, `none` where it refuses. -/
def decodeTableWord (nbits w : Nat) : Option Instr :=
  match decode (tableWord nbits w) with
  | .ok i => some i
  | .error _ => none

end Sys2Proof
end

