-- ==== Sys2Proof/Config.lean ====
section
/-! DEFINITION. The constants the spec fixes (00_scope.md R6) and the configuration it leaves open (R7): one record, and
one opaque value of it for this machine. No proof can see what the open fields are. -/

namespace Sys2Proof

/-- The nine controller commands DRV sends (30_encoding.md R74). -/
inductive Command where
  | swreset | colmod | madctl | caset | raset | ramwr | invon | noron | dispon
  deriving DecidableEq, Repr, Inhabited

/-- Every controller command, once. -/
def Command.all : List Command :=
  [.swreset, .colmod, .madctl, .caset, .raset, .ramwr, .invon, .noron, .dispon]

/-- A number for each command, used only where a configuration's nine bytes are not distinct, which no machine of
30_encoding.md R74 has. -/
def Command.index : Command → Byte
  | .swreset => 0
  | .colmod => 1
  | .madctl => 2
  | .caset => 3
  | .raset => 4
  | .ramwr => 5
  | .invon => 6
  | .noron => 7
  | .dispon => 8

/-- The three panel-geometry classes (10_state.md R13). The fourth code of the two bits is never written. -/
inductive GeomClass where
  | squareRj | centeredOdd | centeredEven
  deriving DecidableEq, Repr, Inhabited

/-- The electrical level of a pin; polarity is open (30_encoding.md R71). -/
inductive Level where
  | low | high
  deriving DecidableEq, Repr, Inhabited

/-- ANGLE_STEPS (00_scope.md R6). -/
def angleSteps : Nat := 24
/-- COLLISION_STEPS (00_scope.md R6). -/
def collisionSteps : Nat := 1
/-- NEEDLE_CAPACITY (00_scope.md R6). -/
def needleCapacity : Nat := 30
/-- FIXED_TOP_SLOT = ANGLE_STEPS*3/4 (00_scope.md R6). -/
def fixedTopSlot : Nat := 18
/-- FLASH_TOGGLES (00_scope.md R6). -/
def flashToggles : Nat := 6
/-- SPIN_STEP (00_scope.md R6). -/
def spinStep : Nat := 1
/-- BURST_MAX_PIXELS (00_scope.md R6): 60 pixels, 120 bytes. -/
def burstMaxPixels : Nat := 60
/-- BURST_MAX_BYTES (00_scope.md R6). -/
def burstMaxBytes : Nat := 120
/-- T_RST_HOLD in ms, a lower bound (00_scope.md R6, 92_eei_decisions.md D10; log entry 17). -/
def tRstHold : Nat := 10
/-- T_SWRESET in ms, a lower bound (00_scope.md R6; log entry 17). -/
def tSwreset : Nat := 15
/-- CTRL_ROWS (00_scope.md R6). -/
def ctrlRows : Nat := 320

/-- The open parameters of 00_scope.md R7. The functions below read them, so that every value of this record stands for
a configuration the spec allows (30_encoding.md R74, 40_driver_ops.md R109). -/
structure Cfg where
  /-- CMD_*: the nine command bytes; read through `Cfg.cmd`. -/
  openCmd : Command → Byte
  /-- COLMOD_16BIT. -/
  colmod16bit : Byte
  /-- MADCTL_DATA[0..3]. -/
  madctlData : BitVec 2 → Byte
  /-- INIT_MADCTL_DATA. -/
  initMadctlData : Byte
  /-- INIT_CASET[0..3]. -/
  initCaset : Vector Byte 4
  /-- INIT_RASET[0..3]. -/
  initRaset : Vector Byte 4
  /-- T_INVON in ms. -/
  tInvon : Nat
  /-- T_NORON in ms. -/
  tNoron : Nat
  /-- T_DISPON in ms. -/
  tDispon : Nat
  /-- BG_COLOR. -/
  bgColor : U16
  /-- CTRL_COLS less 240; read through `Cfg.ctrlCols`. -/
  extraCols : Fin 64976
  /-- geom_class away from 240×240; read through `Cfg.geomClass`. -/
  openGeomClass : U16 → U16 → GeomClass
  /-- OFFSET away from its one stated point, where it keeps the bound of 20_memory.md R48; read through `Cfg.offset`. -/
  openOffset : GeomClass → U16 → U16 → BitVec 2 → U16 × U16
  /-- PIXBUF_SIZE, in words, never bounded (00_scope.md R7). -/
  pixbufSize : Nat
  /-- CS_ACTIVE: the level of *selected*. -/
  csActive : Level
  /-- DC_COMMAND: the level of *command*. -/
  dcCommand : Level
  /-- RST_ACTIVE: the level of *asserted*. -/
  rstActive : Level
  /-- BL_ACTIVE: the level of *on*. -/
  blActive : Level
  deriving Inhabited

/-- The byte of a controller command. 30_encoding.md R74: the nine are pairwise distinct (log entry 2). -/
def Cfg.cmd (c : Cfg) (k : Command) : Byte :=
  if (Command.all.map c.openCmd).Nodup then c.openCmd k else k.index

/-- CTRL_COLS. At least 240, because INIT takes the 240-wide panel the spec names (40_driver_ops.md R100, R109), and with
CTRL_ROWS below 2^16 (20_memory.md R48). DEDUCED, log entry 3. -/
def Cfg.ctrlCols (c : Cfg) : Nat := c.extraCols.val + 240

/-- geom_class(width, height), held to the one class the spec states (40_driver_ops.md R109). -/
def Cfg.geomClass (c : Cfg) (width height : U16) : GeomClass :=
  if width = 240 ∧ height = 240 then .squareRj else c.openGeomClass width height

/-- The bound on the offset pair of a legal panel: for every in-panel x and y, `x + XSTART < CTRL_COLS + CTRL_ROWS` and the
same of `y + YSTART`, so that no sum wraps (20_memory.md R48). A panel that INIT refuses (a side 0 or past the controller,
60_exceptions.md R149) is bounded by nothing: its pair is open (log entry 26). -/
abbrev Cfg.offsetFits (c : Cfg) (width height : U16) (o : U16 × U16) : Prop :=
  (1 ≤ width.toNat ∧ width.toNat ≤ c.ctrlCols) → (1 ≤ height.toNat ∧ height.toNat ≤ ctrlRows) →
    width.toNat + o.1.toNat ≤ c.ctrlCols + ctrlRows ∧ height.toNat + o.2.toNat ≤ c.ctrlCols + ctrlRows

/-- OFFSET(class, width, height, r): the one pair the spec states, (0, 80) (40_driver_ops.md R109); elsewhere the configured
pair, which keeps the bound of 20_memory.md R48. The pair (0, 0) keeps it on every legal panel, and stands in where a
configured pair does not, which no machine of R48 has (DESIGN CHOICE, log entry 26). -/
def Cfg.offset (c : Cfg) (g : GeomClass) (width height : U16) (r : BitVec 2) : U16 × U16 :=
  if g = .squareRj ∧ width = 240 ∧ height = 240 ∧ r = 0 then (0, 80)
  else if c.offsetFits width height (c.openOffset g width height r) then c.openOffset g width height r
  else (0, 0)

/-- The configuration of the machine: open (00_scope.md R7; log entry 1). -/
opaque Config.current : Cfg

end Sys2Proof
end

