-- ==== Sys2Proof/Machine/State.lean ====
section
/-! DEFINITION. The state of the block as plain data (10_state.md, 20_memory.md), the reasons a step can stop, and block
reset (10_state.md R33). -/

namespace Sys2Proof.Machine

/-- An event of the transport trace (30_encoding.md R70). -/
inductive Event where
  /-- CMD(c): one byte with the select line at *command*, then the completion wait. -/
  | cmd (c : Byte)
  /-- DATA(bs): one burst with the select line at *data*, then the completion wait. -/
  | data (bs : List Byte)
  /-- DELAY(n): at least n milliseconds. -/
  | delay (ms : Nat)
  /-- RST(a): the reset line asserted (true) or deasserted. -/
  | rst (asserted : Bool)
  /-- BL(a): the backlight on (true) or off. -/
  | bl (on : Bool)
  deriving DecidableEq, Repr

/-- STATE (10_state.md R23). -/
inductive GameState where
  | play | flash
  deriving DecidableEq, Repr

/-- The closed list of reasons of `raise Refuse(reason)` (60_exceptions.md R145). -/
inductive RefuseReason where
  | reservedOpcode | notReady | pixbufRange | geometryUnsupported | needleIndex
  deriving DecidableEq, Repr

/-- What the host does next (10_state.md R10 (c)): it presents a request word, or, between requests, writes a word of
PIXBUF (70_reset_and_hazards.md R171, R184). DESIGN CHOICE, log entries 4 and 6. -/
inductive HostMove where
  | request (word : ReqWord)
  | setPixel (addr : Nat) (value : U16)
  deriving DecidableEq, Repr

/-- A word memory: (word address, word) pairs, addresses strictly rising, no entry equal to what an unlisted address
reads as (`Memory.wf`, in Ops.lean). PIXBUF and ROWBUF are word-addressed and have no byte order (20_memory.md R44; log
entry 12). -/
abbrev Memory := List (Nat × U16)

/-- What stops a step for good. The block itself raises no exception (60_exceptions.md R140); both are accesses to a place
that does not exist. -/
inductive Fault where
  /-- Raised by FILLSCR where WIDTH exceeds CTRL_COLS: ROWBUF has CTRL_COLS entries (10_state.md R16). Safe: no run reaches
  such a state, since INIT refuses such a WIDTH (60_exceptions.md R149). Log entry 15. -/
  | rowbufRange
  /-- Raised by a host write to a word address that PIXBUF does not have (20_memory.md R41). Safe: the host has no such
  word. Log entry 6. -/
  | pixbufNoWord
  deriving DecidableEq, Repr

/-- What the model gives no meaning. Every operation of the block has one. -/
inductive Refusal where
  /-- The interface's refusal of an instruction with no meaning. No arm of `exec` answers it. Safe. -/
  | notModelled (mnemonic : String)
  deriving DecidableEq, Repr

/-- Every piece of state the spec gives the block, under the spec's names, and the host's moves the step reads. -/
@[ext]
structure State where
  /-- DRV_READY (10_state.md R11). -/
  drvReady : Bool
  /-- WIDTH (10_state.md R12). -/
  width : U16
  /-- HEIGHT (10_state.md R12). -/
  height : U16
  /-- GEOM (10_state.md R13). -/
  geom : GeomClass
  /-- ROT (10_state.md R14). -/
  rot : BitVec 2
  /-- XSTART (10_state.md R15). -/
  xstart : U16
  /-- YSTART (10_state.md R15). -/
  ystart : U16
  /-- ROWBUF (10_state.md R16). -/
  rowbuf : Memory
  /-- TX, oldest event first (10_state.md R17). -/
  tx : List Event
  /-- N[0 .. 29] (10_state.md R20). -/
  needles : Vector (BitVec 5) 30
  /-- COUNT, 0 to 30 (10_state.md R21; log entry 13). -/
  count : Fin 31
  /-- SPIN (10_state.md R22). -/
  spin : BitVec 5
  /-- STATE (10_state.md R23). -/
  gameState : GameState
  /-- FCNT (10_state.md R24). -/
  fcnt : BitVec 3
  /-- FPHASE (10_state.md R25). -/
  fphase : Bool
  /-- BTN_PREV (10_state.md R26). -/
  btnPrev : Bool
  /-- RESP (10_state.md R28). -/
  resp : U16
  /-- REFUSED (10_state.md R32). -/
  refused : Bool
  /-- The model's own record of the last refusal's reason (60_exceptions.md R145; log entry 8). No rule reads it. -/
  refuseReason : Option RefuseReason
  /-- PIXBUF (20_memory.md R41). -/
  pixbuf : Memory
  /-- The host's moves still to come, next first (10_state.md R10, R30; log entry 4). -/
  moves : List HostMove
  /-- The index of the request being executed (10_state.md R30). -/
  pc : Nat
  deriving DecidableEq, Repr

/-- Block reset (10_state.md R33). The registers R33 calls unspecified hold the values of log entries 9, 10 and 11. -/
def State.reset : State where
  drvReady := false
  width := 0
  height := 0
  geom := .squareRj
  rot := 0
  xstart := 0
  ystart := 0
  rowbuf := []
  tx := []
  needles := Vector.replicate 30 0
  count := 0
  spin := 0
  gameState := .play
  fcnt := 0
  fphase := false
  btnPrev := false
  resp := 0
  refused := false
  refuseReason := none
  pixbuf := []
  moves := []
  pc := 0

end Sys2Proof.Machine
end

