-- ==== Sys2Proof/Machine/Flags.lean ====
section
/-! DEFINITION. The one-bit and counter updates of the block: the button edge, the flash phase and counter, the refusal
mark. No operation has arithmetic condition codes (10_state.md R23 to R26, R32). -/

namespace Sys2Proof.Machine

/-- The edge detector: `(BTN_PREV = 0) and (level = 1)` (41_engine_ops.md R121, 10_state.md R26). -/
def risingEdge (btnPrev level : Bool) : Bool := !btnPrev && level

/-- BTN_PREV takes the level sampled this frame, in both states (10_state.md R26). -/
def sampleButton (level : Bool) (s : State) : State := { s with btnPrev := level }

/-- One toggle of FLASH: FPHASE inverted, FCNT one more (10_state.md R24, R25; 41_engine_ops.md R121). -/
def flashToggle (s : State) : State := { s with fphase := !s.fphase, fcnt := s.fcnt + 1 }

/-- FCNT has reached FLASH_TOGGLES (41_engine_ops.md R121). -/
def flashDone (s : State) : Bool := s.fcnt.toNat == flashToggles

/-- REFUSED is set and never cleared (10_state.md R32, 60_exceptions.md R146). -/
def markRefused (reason : RefuseReason) (s : State) : State :=
  { s with refused := true, refuseReason := some reason }

end Sys2Proof.Machine
end

