-- ==== Sys2Proof/Machine/Operands.lean ====
section
/-! DEFINITION. What operations compute from operands, with no state: byte order, rotation, packed colours, and the slot
arithmetic of ENG (40_driver_ops.md R110, 41_engine_ops.md R128). -/

namespace Sys2Proof.Machine

/-- `be16(v)`: two bytes, most significant first (00_scope.md R8, 20_memory.md R44). -/
def be16 (v : U16) : List Byte := [v.extractLsb' 8 8, v.extractLsb' 0 8]

/-- `m mod 4`, which for a `u8` is `m[1:0]` (30_encoding.md R62, 40_driver_ops.md R101). -/
def rotOf (m : Byte) : BitVec 2 := m.extractLsb' 0 2

/-- `(r[7:3] << 11) | (g[7:2] << 5) | b[7:3]` (40_driver_ops.md R108, 30_encoding.md R76). -/
def pack565 (r g b : Byte) : U16 :=
  ((r.extractLsb' 3 5).setWidth 16 <<< 11) ||| ((g.extractLsb' 2 6).setWidth 16 <<< 5)
    ||| (b.extractLsb' 3 5).setWidth 16

/-- `wrap(i)`: the Euclidean remainder by 24, for every integer (41_engine_ops.md R122). -/
def wrap (i : Int) : Int := i % (angleSteps : Int)

/-- `wrap_diff(a, b)`: the representative of `a - b` modulo 24 in -11 .. 12 (41_engine_ops.md R123). -/
def wrapDiff (a b : Int) : Int :=
  let e := (a - b) % (angleSteps : Int)
  if e > 12 then e - (angleSteps : Int) else e

/-- The five bits of a slot, as SPIN and the needle file hold it (10_state.md R20, R22). -/
def slotBits (i : Int) : BitVec 5 := BitVec.ofInt 5 i

/-- `zext_16` of a slot, as RESP holds it (00_scope.md R8, 41_engine_ops.md R122). -/
def zext16 (i : Int) : U16 := BitVec.ofInt 16 i

/-- `sext_16` of a signed distance, as RESP holds it (00_scope.md R8, 41_engine_ops.md R123). -/
def sext16 (i : Int) : U16 := BitVec.ofInt 16 i

/-- A stored slot read as the integer it stands for. -/
def slotInt (n : BitVec 5) : Int := (n.toNat : Int)

/-- The test of one stored needle, `|wrap_diff(c, n)| < COLLISION_STEPS` (41_engine_ops.md R124). -/
def collidesWith (c : Int) (n : BitVec 5) : Bool := decide ((wrapDiff c (slotInt n)).natAbs < collisionSteps)

end Sys2Proof.Machine
end

