-- ==== Sys2Proof/Machine/Ops.lean ====
section
/-! DEFINITION. The operations the meanings share: word memory, the trace, refusal, FLASH entry and exit, the procedures
`setwin`, `stream`, `setrot`, `fillscr`, `collision` and `place`, and the request port. -/

namespace Sys2Proof.Machine

/-! ### Word memory (20_memory.md R41, 10_state.md R16) -/

/-- What an unlisted word reads as (DESIGN CHOICE, log entries 10 and 11). -/
def unlistedWord : U16 := 0

/-- The word at a word address. -/
def Memory.read : Memory → Nat → U16
  | [], _ => unlistedWord
  | (b, v) :: rest, a => if b = a then v else Memory.read rest a

/-- Store a word, keeping the canonical form: storing what an unlisted address reads as removes the entry. -/
def Memory.write : Memory → Nat → U16 → Memory
  | [], a, v => if v = unlistedWord then [] else [(a, v)]
  | (b, w) :: rest, a, v =>
    if a < b then
      if v = unlistedWord then (b, w) :: rest else (a, v) :: (b, w) :: rest
    else if a = b then
      if v = unlistedWord then rest else (a, v) :: rest
    else (b, w) :: Memory.write rest a v

/-- The canonical form: addresses strictly rising, no entry equal to what an unlisted address reads as. -/
abbrev Memory.wf (m : Memory) : Prop :=
  m.Pairwise (fun p q => p.1 < q.1) ∧ ∀ p ∈ m, p.2 ≠ unlistedWord

/-- Every listed address is one of the first `size` words. -/
abbrev Memory.within (m : Memory) (size : Nat) : Prop := ∀ p ∈ m, p.1 < size

/-- `for i in 0 .. n-1: M[i] <- v` (40_driver_ops.md R106). -/
def Memory.fill (m : Memory) (n : Nat) (v : U16) : Memory :=
  (List.range n).foldl (fun m i => Memory.write m i v) m

/-! ### Trace, response, refusal -/

/-- `emit`: append events to TX, in the order given (00_scope.md R8, 20_memory.md R50). -/
def emit (es : List Event) (s : State) : State := { s with tx := s.tx ++ es }

/-- `RESP <- v` (10_state.md R28). -/
def setResp (v : U16) (s : State) : State := { s with resp := v }

/-- `raise Refuse(reason)`, the block's one exception: the operation ends with REFUSED set, no other register written, no
event emitted, and the run goes on (00_scope.md R8, 60_exceptions.md R145, R146; log entry 7). -/
def refuse (reason : RefuseReason) (s : State) : Host.Outcome State Fault Refusal :=
  .next (markRefused reason s)

/-- `if DRV_READY = 0: raise Refuse(NotReady)`, before anything else (60_exceptions.md R147, R152 (d)). -/
def whenReady (s : State) (body : State → Host.Outcome State Fault Refusal) : Host.Outcome State Fault Refusal :=
  if s.drvReady then body s else refuse .notReady s

/-! ### FLASH entry and exit (60_exceptions.md R153, R154) -/

/-- Entry to FLASH: it saves nothing and leaves the needle file, COUNT and SPIN alone (60_exceptions.md R153). -/
def enterFlash (s : State) : State := { s with gameState := .flash, fcnt := 0, fphase := false }

/-- Exit from FLASH: it restores nothing, it resets (60_exceptions.md R154). -/
def exitFlash (s : State) : State :=
  { s with gameState := .play, count := 0, spin := 0, btnPrev := false, fcnt := 0, fphase := false }

/-! ### ENG procedures -/

/-- The valid entries of the needle file, placement order (10_state.md R20). -/
def State.valid (s : State) : List (BitVec 5) := s.needles.toList.take s.count.val

/-- `collision(c)`: a scan of the valid entries (41_engine_ops.md R124). -/
def collision (c : Int) (s : State) : Bool := s.valid.any (collidesWith c)

/-- `SPIN <- wrap(SPIN + 1)`, in either state of the game (41_engine_ops.md R121, 90_conflicts.md C1). -/
def advanceSpin (s : State) : State := { s with spin := slotBits (wrap (slotInt s.spin + (spinStep : Int))) }

/-- `wrap(FIXED_TOP_SLOT - SPIN)` (41_engine_ops.md R125). -/
def candidate (s : State) : Int := wrap ((fixedTopSlot : Int) - slotInt s.spin)

/-- `N[COUNT] <- cand; COUNT <- COUNT + 1` (41_engine_ops.md R125). -/
def appendNeedle (cand : Int) (s : State) : State :=
  { s with needles := s.needles.setIfInBounds s.count.val (slotBits cand), count := s.count + 1 }

/-- `place()` (41_engine_ops.md R125). -/
def place (s : State) : State :=
  if collision (candidate s) s || s.count.val == needleCapacity then enterFlash s
  else appendNeedle (candidate s) s

/-! ### DRV procedures -/

/-- The five events of `setwin` (40_driver_ops.md R103): the offset pair added to 16 bits, corners inclusive. -/
def setwinEvents (c : Cfg) (x0 y0 x1 y1 : U16) (s : State) : List Event :=
  [.cmd (c.cmd .caset), .data (be16 (x0 + s.xstart) ++ be16 (x1 + s.xstart)),
   .cmd (c.cmd .raset), .data (be16 (y0 + s.ystart) ++ be16 (y1 + s.ystart)),
   .cmd (c.cmd .ramwr)]

/-- Procedure `setwin` (40_driver_ops.md R103). -/
def setwin (c : Cfg) (x0 y0 x1 y1 : U16) (s : State) : State := emit (setwinEvents c x0 y0 x1 y1 s) s

/-- The bytes of the `n` pixels from pixel `i` on: `be16(src(i)) ++ ... ++ be16(src(i+n-1))` (40_driver_ops.md R104). -/
def burstBytes (src : Nat → U16) (i n : Nat) : List Byte := (List.range n).flatMap fun j => be16 (src (i + j))

/-- The loop of `stream` from pixel `i` on, at most `fuel` bursts. -/
def streamFrom (src : Nat → U16) (count : Nat) : Nat → Nat → List Event
  | 0, _ => []
  | fuel + 1, i =>
    if i < count then
      let n := min burstMaxPixels (count - i)
      .data (burstBytes src i n) :: streamFrom src count fuel (i + n)
    else []

/-- The events of procedure `stream` (40_driver_ops.md R104). Every burst holds a pixel, so `count` bursts are enough. -/
def stream (src : Nat → U16) (count : Nat) : List Event := streamFrom src count count 0

/-- Procedure `setrot` (40_driver_ops.md R101). -/
def setrot (c : Cfg) (m : Byte) (s : State) : State :=
  let r := rotOf m
  let s := { s with rot := r }
  let s := emit [.cmd (c.cmd .madctl), .data [c.madctlData r]] s
  let o := c.offset s.geom s.width s.height r
  { s with xstart := o.1, ystart := o.2 }

/-- Procedure `fillscr` (40_driver_ops.md R106): one row built in ROWBUF, the full-panel window, one `stream` a row. -/
def fillscr (c : Cfg) (color : U16) (s : State) : State :=
  let s := { s with rowbuf := Memory.fill s.rowbuf s.width.toNat color }
  let s := setwin c 0 0 (s.width - 1) (s.height - 1) s
  emit (List.replicate s.height.toNat (stream (Memory.read s.rowbuf) s.width.toNat)).flatten s

/-- The events of INIT's steps 2 to 6 (40_driver_ops.md R100). -/
def bringUpEvents (c : Cfg) : List Event :=
  [.rst true, .delay tRstHold, .rst false, .delay tRstHold,
   .cmd (c.cmd .swreset), .delay tSwreset,
   .cmd (c.cmd .colmod), .data [c.colmod16bit],
   .cmd (c.cmd .madctl), .data [c.initMadctlData],
   .cmd (c.cmd .caset), .data c.initCaset.toList,
   .cmd (c.cmd .raset), .data c.initRaset.toList,
   .cmd (c.cmd .invon), .delay c.tInvon,
   .cmd (c.cmd .noron), .delay c.tNoron,
   .cmd (c.cmd .dispon), .delay c.tDispon]

/-- Panels INIT refuses (60_exceptions.md R149). -/
def geometryUnsupported (c : Cfg) (width height : U16) : Bool :=
  width == 0 || height == 0 || decide (ctrlRows < height.toNat) || decide (c.ctrlCols < width.toNat)

/-! ### The request port (10_state.md R10, R30) -/

/-- The request is done, completed or refused: the next move, the index advanced by exactly one (10_state.md R30). -/
def retire (s : State) : State := { s with moves := s.moves.tail, pc := s.pc + 1 }

/-- A host write of one word of PIXBUF between requests (20_memory.md R41, 70_reset_and_hazards.md R171; log entry 6). -/
def hostSetPixel (c : Cfg) (addr : Nat) (value : U16) (s : State) : Host.Outcome State Fault Refusal :=
  if addr < c.pixbufSize then
    .next { s with pixbuf := Memory.write s.pixbuf addr value, moves := s.moves.tail }
  else .fault .pixbufNoWord

end Sys2Proof.Machine
end

