-- ==== Sys2Proof/Machine/Driver.lean ====
section
/-! DEFINITION. The meanings of unit DRV's operations (40_driver_ops.md). Each `…On c` takes the configuration as an argument
(00_scope.md R7); each `exec…` is it at the machine's own configuration. -/

namespace Sys2Proof.Machine

/-- INIT (40_driver_ops.md R100). -/
def initOn (c : Cfg) (width height : U16) (rotation : Byte) (s : State) : Host.Outcome State Fault Refusal :=
  if geometryUnsupported c width height then refuse .geometryUnsupported s
  else
    let s := { s with width := width, height := height, geom := c.geomClass width height }
    let s := emit (bringUpEvents c) s
    let s := setrot c rotation s
    let s := fillscr c c.bgColor s
    let s := emit [.bl true] s
    .next { s with drvReady := true }

/-- SETROT (40_driver_ops.md R101). -/
def setrotOn (c : Cfg) (m : Byte) (s : State) : Host.Outcome State Fault Refusal :=
  whenReady s fun s => .next (setrot c m s)

/-- SETWIN (40_driver_ops.md R102). -/
def setwinOn (c : Cfg) (x0 y0 x1 y1 : U16) (s : State) : Host.Outcome State Fault Refusal :=
  whenReady s fun s => .next (setwin c x0 y0 x1 y1 s)

/-- FILLWIN (40_driver_ops.md R105). -/
def fillwinOn (c : Cfg) (x0 y0 x1 y1 : U16) (buffer count : Nat) (s : State) : Host.Outcome State Fault Refusal :=
  whenReady s fun s =>
    if c.pixbufSize < buffer + count then refuse .pixbufRange s
    else
      let s := setwin c x0 y0 x1 y1 s
      .next (emit (stream (fun i => Memory.read s.pixbuf (buffer + i)) count) s)

/-- FILLSCR (40_driver_ops.md R106). -/
def fillscrOn (c : Cfg) (color : U16) (s : State) : Host.Outcome State Fault Refusal :=
  whenReady s fun s =>
    if c.ctrlCols < s.width.toNat then .fault .rowbufRange else .next (fillscr c color s)

/-- DRAWPIX (40_driver_ops.md R107): off the panel it does nothing and signals nothing. -/
def drawpixOn (c : Cfg) (x y color : U16) (s : State) : Host.Outcome State Fault Refusal :=
  whenReady s fun s =>
    if x ≥ s.width ∨ y ≥ s.height then .next s
    else .next (emit [.data (be16 color)] (setwin c x y x y s))

/-- INIT (40_driver_ops.md R100). -/
def execInit (width height : U16) (rotation : Byte) (s : State) : Host.Outcome State Fault Refusal :=
  initOn Config.current width height rotation s

/-- SETROT (40_driver_ops.md R101). -/
def execSetrot (m : Byte) (s : State) : Host.Outcome State Fault Refusal :=
  setrotOn Config.current m s

/-- SETWIN (40_driver_ops.md R102). -/
def execSetwin (x0 y0 x1 y1 : U16) (s : State) : Host.Outcome State Fault Refusal :=
  setwinOn Config.current x0 y0 x1 y1 s

/-- FILLWIN (40_driver_ops.md R105). -/
def execFillwin (x0 y0 x1 y1 : U16) (buffer count : Nat) (s : State) : Host.Outcome State Fault Refusal :=
  fillwinOn Config.current x0 y0 x1 y1 buffer count s

/-- FILLSCR (40_driver_ops.md R106). -/
def execFillscr (color : U16) (s : State) : Host.Outcome State Fault Refusal :=
  fillscrOn Config.current color s

/-- DRAWPIX (40_driver_ops.md R107). -/
def execDrawpix (x y color : U16) (s : State) : Host.Outcome State Fault Refusal :=
  drawpixOn Config.current x y color s

/-- PACK565 (40_driver_ops.md R108). -/
def execPack565 (r g b : Byte) (s : State) : Host.Outcome State Fault Refusal :=
  .next (setResp (pack565 r g b) s)

end Sys2Proof.Machine
end

