-- ==== Sys2Proof/Machine/Engine.lean ====
section
/-! DEFINITION. The meanings of unit ENG's operations (41_engine_ops.md). They emit no event, read no memory and need no
INIT. -/

namespace Sys2Proof.Machine

/-- ENGINIT (41_engine_ops.md R120). The needle file is not written. -/
def execEnginit (s : State) : Host.Outcome State Fault Refusal :=
  .next { s with gameState := .play, count := 0, spin := 0, fcnt := 0, fphase := false, btnPrev := false }

/-- The PLAY branch of FRAME: placement on an edge with the old SPIN, then the advance (41_engine_ops.md R121). -/
def framePlay (edge : Bool) (s : State) : State :=
  advanceSpin (if edge then place s else s)

/-- The FLASH branch of FRAME: toggle and count, then the advance, then the exit test (41_engine_ops.md R121,
60_exceptions.md R152 (a)). -/
def frameFlash (s : State) : State :=
  let s := advanceSpin (flashToggle s)
  if flashDone s then exitFlash s else s

/-- FRAME (41_engine_ops.md R121). -/
def execFrame (level : Bool) (s : State) : Host.Outcome State Fault Refusal :=
  let edge := risingEdge s.btnPrev level
  let s := sampleButton level s
  match s.gameState with
  | .play => .next (framePlay edge s)
  | .flash => .next (frameFlash s)

/-- WRAP (41_engine_ops.md R122). -/
def execWrap (i : Int) (s : State) : Host.Outcome State Fault Refusal :=
  .next (setResp (zext16 (wrap i)) s)

/-- WRAPDIFF (41_engine_ops.md R123). -/
def execWrapdiff (a b : Int) (s : State) : Host.Outcome State Fault Refusal :=
  .next (setResp (sext16 (wrapDiff a b)) s)

/-- COLLIDE (41_engine_ops.md R124). -/
def execCollide (c : Int) (s : State) : Host.Outcome State Fault Refusal :=
  .next (setResp (if collision c s then 1 else 0) s)

/-- RPOS (41_engine_ops.md R126): an entry at or past COUNT holds no value (60_exceptions.md R150). -/
def execRpos (k : Nat) (s : State) : Host.Outcome State Fault Refusal :=
  match s.valid[k]? with
  | none => refuse .needleIndex s
  | some n => .next (setResp (zext16 (wrap (slotInt n + slotInt s.spin))) s)

end Sys2Proof.Machine
end

