-- ==== Sys2Proof/Machine/Dispatch.lean ====
section
/-! DEFINITION. The instruction dispatch: one arm per constructor of `Instr`, each a direct call of its meaning. -/

namespace Sys2Proof.Machine

def exec (i : Instr) (s : State) : Host.Outcome State Fault Refusal :=
  match i with
  | .init width height rotation => Sys2Proof.Machine.execInit width height rotation s
  | .setrot m => Sys2Proof.Machine.execSetrot m s
  | .setwin x0 y0 x1 y1 => Sys2Proof.Machine.execSetwin x0 y0 x1 y1 s
  | .fillwin x0 y0 x1 y1 buffer count => Sys2Proof.Machine.execFillwin x0 y0 x1 y1 buffer count s
  | .fillscr color => Sys2Proof.Machine.execFillscr color s
  | .drawpix x y color => Sys2Proof.Machine.execDrawpix x y color s
  | .pack565 r g b => Sys2Proof.Machine.execPack565 r g b s
  | .enginit => Sys2Proof.Machine.execEnginit s
  | .frame level => Sys2Proof.Machine.execFrame level s
  | .wrap n => Sys2Proof.Machine.execWrap n s
  | .wrapdiff a b => Sys2Proof.Machine.execWrapdiff a b s
  | .collide c => Sys2Proof.Machine.execCollide c s
  | .rpos k => Sys2Proof.Machine.execRpos k s

end Sys2Proof.Machine
end

