-- ==== Sys2Proof/Machine/Step.lean ====
section
/-! DEFINITION. One step: the host's next move (10_state.md R10, R30). -/

namespace Sys2Proof.Machine

/-- The request is retired once its operation has answered a next state (10_state.md R30). -/
def afterRequest : Host.Outcome State Fault Refusal → Host.Outcome State Fault Refusal
  | .next t => .next (retire t)
  | .fault f => .fault f
  | .refused r => .refused r

/-- What a decoded request does; a reserved OP is refused before any other check (30_encoding.md R63, 60_exceptions.md
R151, R152 (e)). -/
def runDecoded (d : Except DecodeError Instr) (s : State) : Host.Outcome State Fault Refusal :=
  match d with
  | .ok i => exec i s
  | .error (.reservedOpcode _) => refuse .reservedOpcode s

/-- One request (10_state.md R10 (a)) or one host write between requests; with no move to come the block waits for the
host, unchanged (log entry 5). -/
def step (s : State) : Host.Outcome State Fault Refusal :=
  match s.moves with
  | [] => .next s
  | .request w :: _ => afterRequest (runDecoded (decode w) s)
  | .setPixel a v :: _ => hostSetPixel Config.current a v s

/-- The same state with this request presented next, in place of the host's next move. -/
def State.withFetchWord (s : State) (nbits w : Nat) : State :=
  { s with moves := .request (tableWord nbits w) :: s.moves.tail }

end Sys2Proof.Machine
end

