-- ==== Sys2Proof/Machine/Wire.lean ====
section
/-! DEFINITION. What the outside sees: the wire projection (30_encoding.md R73), the pin-level expansion (R71), the status
outputs (10_state.md R29) and the observation of a run (70_reset_and_hazards.md R187). No operation reads any of it. -/

namespace Sys2Proof.Machine

/-- The select line of a byte on the wire: command or data (30_encoding.md R73). -/
inductive Tag where
  | command | data
  deriving DecidableEq, Repr

/-- The tagged bytes of one event; DELAY, RST and BL give nothing (30_encoding.md R73). -/
def wireOfEvent : Event → List (Tag × Byte)
  | .cmd c => [(.command, c)]
  | .data bs => bs.map fun b => (.data, b)
  | .delay _ => []
  | .rst _ => []
  | .bl _ => []

/-- `wire(TX)`: the tagged bytes the controller sees (30_encoding.md R73). -/
def wire (tx : List Event) : List (Tag × Byte) := tx.flatMap wireOfEvent

/-- The data bytes of the DATA events, in order. -/
def dataBytes (tx : List Event) : List Byte :=
  tx.flatMap fun e => match e with
    | .data bs => bs
    | .cmd _ => []
    | .delay _ => []
    | .rst _ => []
    | .bl _ => []

/-- A use of the Transport's own primitives (30_encoding.md R71), pins at logical levels. -/
inductive Primitive where
  | dcPin (command : Bool)
  | csPin (selected : Bool)
  | send (bs : List Byte)
  | wait
  | delayMs (n : Nat)
  | rstPin (asserted : Bool)
  | blPin (on : Bool)
  deriving DecidableEq, Repr

/-- A send with its select level: chip-select around it, the wait before the release (30_encoding.md R71). -/
def sendPrimitives (command : Bool) (bs : List Byte) : List Primitive :=
  [.dcPin command, .csPin true, .send bs, .wait, .csPin false]

/-- The pin-level expansion of one event (30_encoding.md R71). -/
def expandEvent : Event → List Primitive
  | .cmd c => sendPrimitives true [c]
  | .data bs => sendPrimitives false bs
  | .delay n => [.delayMs n]
  | .rst a => [.rstPin a]
  | .bl a => [.blPin a]

/-- The pin-level expansion of a trace (30_encoding.md R71). -/
def expandTrace (tx : List Event) : List Primitive := tx.flatMap expandEvent

/-- The four pins of 60_exceptions.md R158. -/
inductive Pin where
  | dc | cs | rst | bl
  deriving DecidableEq, Repr

/-- The other electrical level. -/
def otherLevel : Level → Level
  | .low => .high
  | .high => .low

/-- The electrical level of a pin whose level when active is `active`. -/
def pinLevel (active : Level) (on : Bool) : Level := if on then active else otherLevel active

/-- The pin a primitive sets and its electrical level; polarity is configuration (30_encoding.md R71, 00_scope.md R7). -/
def electrical (c : Cfg) : Primitive → Option (Pin × Level)
  | .dcPin command => some (.dc, pinLevel c.dcCommand command)
  | .csPin selected => some (.cs, pinLevel c.csActive selected)
  | .rstPin asserted => some (.rst, pinLevel c.rstActive asserted)
  | .blPin on => some (.bl, pinLevel c.blActive on)
  | .send _ => none
  | .wait => none
  | .delayMs _ => none

/-- The status outputs, readable between requests with no side effect (10_state.md R29). -/
structure Status where
  gameState : GameState
  fphase : Bool
  fcnt : BitVec 3
  count : Fin 31
  spin : BitVec 5
  rot : BitVec 2
  xstart : U16
  ystart : U16
  width : U16
  height : U16
  resp : U16
  refused : Bool
  /-- `N[k]` for k < COUNT. -/
  needles : List (BitVec 5)
  deriving DecidableEq, Repr

/-- The status outputs of a state (10_state.md R29). -/
def statusOf (s : State) : Status where
  gameState := s.gameState
  fphase := s.fphase
  fcnt := s.fcnt
  count := s.count
  spin := s.spin
  rot := s.rot
  xstart := s.xstart
  ystart := s.ystart
  width := s.width
  height := s.height
  resp := s.resp
  refused := s.refused
  needles := s.valid

/-- The observation of a run: the final registers, RESP, REFUSED and the whole of TX (70_reset_and_hazards.md R187). The
status outputs of 10_state.md R29, then the registers that are no status output, then the trace. An invalid entry of the
needle file holds no value (10_state.md R20), so the valid ones are all there is to see of it. -/
structure Observation where
  status : Status
  drvReady : Bool
  geom : GeomClass
  btnPrev : Bool
  rowbuf : Memory
  tx : List Event
  deriving DecidableEq, Repr

/-- What is observed of a state at the end of a run (70_reset_and_hazards.md R187). -/
def observe (s : State) : Observation where
  status := statusOf s
  drvReady := s.drvReady
  geom := s.geom
  btnPrev := s.btnPrev
  rowbuf := s.rowbuf
  tx := s.tx

end Sys2Proof.Machine
end

