-- ==== Sys2Proof/Machine/Run.lean ====
section
/-! DEFINITION. A run: a finite list of requests, ended when the last has completed or been refused, and what is observed of
it (70_reset_and_hazards.md R187, 10_state.md R30). -/

namespace Sys2Proof.Machine

/-- That many steps, one after the other. -/
def runSteps : Nat → State → Host.Outcome State Fault Refusal
  | 0, s => .next s
  | n + 1, s => match step s with
    | .next t => runSteps n t
    | .fault f => .fault f
    | .refused r => .refused r

/-- The run of a list of requests from a state: the host presents them in order (70_reset_and_hazards.md R187). -/
def runRequests (ws : List ReqWord) (s : State) : Host.Outcome State Fault Refusal :=
  runSteps ws.length { s with moves := ws.map .request }

/-- The observation of a run of requests from block reset (70_reset_and_hazards.md R187); `none` where it did not end. -/
def observeRun (ws : List ReqWord) : Option Observation :=
  match runRequests ws State.reset with
  | .next t => some (observe t)
  | .fault _ => none
  | .refused _ => none

end Sys2Proof.Machine
end

