-- ==== Sys2Proof/Safety.lean ====
section
/-! DEFINITION. The terms claims use: the invariants of each unit (10_state.md R27, 70_reset_and_hazards.md R173 to R175,
30_encoding.md R74), the canonical memories, and the run the spec describes (60_exceptions.md R146). -/

namespace Sys2Proof.Safety

open Sys2Proof.Machine

/-- I1 to I5 of 10_state.md R27. I6, placement order, is how entries are appended, and is about steps, not states. -/
abbrev EngInv (s : State) : Prop :=
  s.count.val ≤ needleCapacity
    ∧ (∀ n ∈ s.valid, n.toNat < angleSteps)
    ∧ s.valid.Pairwise (fun a b => 1 ≤ (wrapDiff (slotInt a) (slotInt b)).natAbs)
    ∧ s.spin.toNat < angleSteps
    ∧ (s.gameState = .play → s.fcnt = 0 ∧ s.fphase = false)
    ∧ (s.gameState = .flash → s.fcnt.toNat ≤ 5)

/-- The controller's memory-access-control byte after a trace, as the stream sets it (10_state.md R31 (a)): the first
data byte after the last memory-access-control command. The first component says that such a byte is awaited. -/
def madctlStep (c : Cfg) (acc : Bool × Option Byte) (e : Event) : Bool × Option Byte :=
  match e with
  | .cmd k => (k == c.cmd .madctl, acc.2)
  | .data [] => acc
  | .data (b :: _) => if acc.1 then (false, some b) else acc
  | .delay _ => acc
  | .rst _ => acc
  | .bl _ => acc

/-- The memory-access-control byte last sent (10_state.md R31 (a)). -/
def madctlOf (c : Cfg) (tx : List Event) : Option Byte := (tx.foldl (madctlStep c) (false, none)).2

/-- Once DRV is ready its registers are as INIT and SETROT leave them (10_state.md R12 to R15), and the offset pair agrees
with the memory-access-control byte last sent (70_reset_and_hazards.md R174). -/
abbrev DrvInv (c : Cfg) (s : State) : Prop :=
  s.drvReady = true →
    (1 ≤ s.width.toNat ∧ s.width.toNat ≤ c.ctrlCols) ∧ (1 ≤ s.height.toNat ∧ s.height.toNat ≤ ctrlRows)
      ∧ s.geom = c.geomClass s.width s.height
      ∧ (s.xstart, s.ystart) = c.offset s.geom s.width s.height s.rot
      ∧ madctlOf c s.tx = some (c.madctlData s.rot)

/-- Both word memories are canonical and list only words that exist (20_memory.md R41, 10_state.md R16). -/
abbrev MemInv (c : Cfg) (s : State) : Prop :=
  (Memory.wf s.pixbuf ∧ Memory.within s.pixbuf c.pixbufSize)
    ∧ (Memory.wf s.rowbuf ∧ Memory.within s.rowbuf c.ctrlCols)

/-- What the controller's protocol awaits after a command (30_encoding.md R74). -/
inductive Awaited where
  /-- No data byte belongs here. -/
  | nothing
  /-- The operand bytes of a command, sent as one DATA event (30_encoding.md R72). -/
  | operands (n : Nat)
  /-- Pixel bytes, any number, in bursts (30_encoding.md R74; primed, 70_reset_and_hazards.md R175). -/
  | pixels
  deriving DecidableEq, Repr

/-- The command a byte is (30_encoding.md R74). -/
def commandOf (c : Cfg) (b : Byte) : Option Command := Command.all.find? fun k => c.cmd k == b

/-- The data bytes of each frame (30_encoding.md R74). -/
def awaitedAfter : Command → Awaited
  | .swreset => .nothing
  | .colmod => .operands 1
  | .madctl => .operands 1
  | .caset => .operands 4
  | .raset => .operands 4
  | .ramwr => .pixels
  | .invon => .nothing
  | .noron => .nothing
  | .dispon => .nothing

/-- A burst of whole pixels, 2 to 120 bytes (20_memory.md R45, 30_encoding.md R70, 70_reset_and_hazards.md R173). -/
def pixelBurst (bs : List Byte) : Bool :=
  bs.length % 2 == 0 && decide (1 ≤ bs.length) && decide (bs.length ≤ burstMaxBytes)

/-- A command's operand bytes are still to come. -/
def Awaited.owesOperands : Awaited → Bool
  | .nothing => false
  | .operands _ => true
  | .pixels => false

/-- What a DATA event does to the frame protocol: all of a command's operand bytes in one event, or a burst of pixels. -/
def dataStep (a : Awaited) (bs : List Byte) : Option Awaited :=
  match a with
  | .nothing => none
  | .operands n => if bs.length = n then some .nothing else none
  | .pixels => if pixelBurst bs then some .pixels else none

/-- One event of the frame protocol (30_encoding.md R74); `none` where the event breaks it. -/
def frameStep (c : Cfg) (a : Awaited) (e : Event) : Option Awaited :=
  match e with
  | .cmd b => if a.owesOperands then none else (commandOf c b).map awaitedAfter
  | .data bs => dataStep a bs
  | .delay _ => if a.owesOperands then none else some a
  | .rst _ => if a.owesOperands then none else some a
  | .bl _ => if a.owesOperands then none else some a

/-- The frame protocol over a trace. -/
def framing (c : Cfg) : Awaited → List Event → Option Awaited
  | a, [] => some a
  | a, e :: es => match frameStep c a e with
    | none => none
    | some a' => framing c a' es

/-- The trace is made of whole frames of 30_encoding.md R74, with no command left without its operands. -/
abbrev TraceInv (c : Cfg) (s : State) : Prop :=
  framing c .nothing s.tx = some .nothing ∨ framing c .nothing s.tx = some .pixels

/-- A run the spec describes so far: no request has been refused (60_exceptions.md R146). -/
abbrev NoRefusal (s : State) : Prop := s.refused = false

/-- Operations one after the other, stopping at the first that gives no next state (10_state.md R30: a run is a list of
requests, executed top to bottom). -/
def execAll : List Instr → State → Host.Outcome State Fault Refusal
  | [], s => .next s
  | i :: is, s => match exec i s with
    | .next t => execAll is t
    | .fault f => .fault f
    | .refused r => .refused r

/-! ### The laws of ENG (41_engine_ops.md R129), one definition each -/

/-- Law (1): `wrap` is idempotent and its value is a slot, for every integer (41_engine_ops.md R129 (1)). -/
def WrapLaw : Prop := ∀ i : Int, wrap (wrap i) = wrap i ∧ 0 ≤ wrap i ∧ wrap i < 24

/-- Law (2): `wrap_diff` lies in (-12, 12], and is 0 on equal arguments (41_engine_ops.md R129 (2)). -/
def WrapDiffLaw : Prop := (∀ a b : Int, -12 < wrapDiff a b ∧ wrapDiff a b ≤ 12) ∧ ∀ a : Int, wrapDiff a a = 0

/-- Law (3): right after a needle is appended at slot `k`, `collision(k)` is true (41_engine_ops.md R129 (3)). -/
def AppendCollidesLaw : Prop :=
  ∀ (k : Int) (s : State), 0 ≤ k → k < 24 → s.count.val < 30 → collision k (appendNeedle k s) = true

/-- Law (4): with 30 needles stored, any placement attempt enters FLASH and stores nothing, whatever slot the spin chooses
(41_engine_ops.md R129 (4); no run from reset meets the premise, 90_conflicts.md C3). -/
def CapacityLaw : Prop :=
  ∀ s : State, s.count.val = 30 → s.gameState = .play → s.btnPrev = false →
    ∃ t, exec (.frame true) s = .next t ∧ t.gameState = .flash ∧ t.count = s.count ∧ t.needles = s.needles

/-- Law (5): from its entry FLASH lasts exactly six frames, one toggle each, whatever the button does, and then returns to
PLAY with an empty needle set and SPIN 0 (41_engine_ops.md R129 (5)). -/
def FlashLaw : Prop :=
  ∀ (s : State) (levels : List Bool), s.gameState = .flash → s.fcnt = 0 →
    (levels.length < 6 → ∃ t, execAll (levels.map Instr.frame) s = .next t
      ∧ t.gameState = .flash ∧ t.fphase = (s.fphase ^^ (levels.length % 2 == 1)))
    ∧ (levels.length = 6 → ∃ t, execAll (levels.map Instr.frame) s = .next t
      ∧ t.gameState = .play ∧ t.count = 0 ∧ t.spin = 0)

/-- Law (6): the document's scenario. At SPIN 5 with no needle, an edge stores 13 and moves SPIN to 6, and that needle is
rendered at 19 (41_engine_ops.md R129 (6), R121). -/
def ScenarioLaw : Prop :=
  ∀ s : State, s.gameState = .play → s.count = 0 → s.spin = 5 → s.btnPrev = false →
    ∃ t, exec (.frame true) s = .next t ∧ t.gameState = .play ∧ t.count = 1 ∧ t.needles[0]? = some 13 ∧ t.spin = 6
      ∧ exec (.rpos 0) t = .next { t with resp := 19 }

/-- Which unit an operation belongs to (00_scope.md R2): true for DRV. -/
def isDrv : Instr → Bool
  | .init _ _ _ => true
  | .setrot _ => true
  | .setwin _ _ _ _ => true
  | .fillwin _ _ _ _ _ _ => true
  | .fillscr _ => true
  | .drawpix _ _ _ => true
  | .pack565 _ _ _ => true
  | .enginit => false
  | .frame _ => false
  | .wrap _ => false
  | .wrapdiff _ _ => false
  | .collide _ => false
  | .rpos _ => false

/-- Two states agree on every register and memory of DRV (10_state.md R11 to R17, 20_memory.md R41). -/
abbrev SameDrv (s t : State) : Prop :=
  s.drvReady = t.drvReady ∧ s.width = t.width ∧ s.height = t.height ∧ s.geom = t.geom ∧ s.rot = t.rot
    ∧ s.xstart = t.xstart ∧ s.ystart = t.ystart ∧ s.rowbuf = t.rowbuf ∧ s.tx = t.tx ∧ s.pixbuf = t.pixbuf

/-- Two states agree on every register of ENG (10_state.md R20 to R26). -/
abbrev SameEng (s t : State) : Prop :=
  s.needles = t.needles ∧ s.count = t.count ∧ s.spin = t.spin ∧ s.gameState = t.gameState ∧ s.fcnt = t.fcnt
    ∧ s.fphase = t.fphase ∧ s.btnPrev = t.btnPrev

/-- Two states agree on the response register and the refusal mark (10_state.md R28, R32). -/
abbrev SameAnswers (s t : State) : Prop :=
  s.resp = t.resp ∧ s.refused = t.refused ∧ s.refuseReason = t.refuseReason

end Sys2Proof.Safety
end

