-- ==== Sys2Proof/Certificates/Slice0/Obligations.lean ====
section
/-! DEFINITION. The statements about the model, for the provers. -/

open Sys2Proof Sys2Proof.Machine Sys2Proof.Safety

/-! ### Encoding -/

/-- Decoding the word of any well-formed operation gives the operation back (30_encoding.md R60 to R62). -/
def Obligations.DecodeEncodeRoundTrip : Prop :=
  ∀ i : Instr, i.wellFormed = true → decode (encode i) = .ok i

/-- A word that decodes, decodes to a well-formed operation, and the word with every ignored field and bit cleared is that
operation's own word: no used bit is dropped and no ignored bit matters (30_encoding.md R61, R62). -/
def Obligations.DecodedWordKeepsUsedBits : Prop :=
  ∀ (w : ReqWord) (i : Instr), decode w = .ok i →
    i.wellFormed = true ∧ encode i = w &&& usedBits (fieldOp w)

/-- The request words of 95_test_vectors.md X1, X3, X5, X7, X11, X13 and X14 decode to the requests they stand for. -/
def Obligations.TableWordsDecode : Prop :=
  decode 0x00000000000000000000000000F000F001 = .ok (.init 240 240 0)
    ∧ decode 0x0000000000000000000000000000000302 = .ok (.setrot 3)
    ∧ decode 0x0000010000000009000800070006000504 = .ok (.fillwin 5 6 7 8 0x100 9)
    ∧ decode 0x00000000000000000000F80000EF00EF06 = .ok (.drawpix 239 239 0xF800)
    ∧ decode 0x0000000000000000000000000000FFFF12 = .ok (.wrap (-1))
    ∧ decode 0x0000000000000000000000000000FFF514 = .ok (.collide (-11))
    ∧ decode 0x0000000000000000000000000000000115 = .ok (.rpos 1)

/-- Exactly the OP values outside the thirteen are reserved, and such a request sets the refusal mark and does nothing else
but retire (60_exceptions.md R151; the reason field is the model's, log entry 8, the request list and its index log entry 4,
and that the run goes on is log entry 7). -/
def Obligations.ReservedOpcodeRefused : Prop :=
  ∀ (s : State) (w : ReqWord) (rest : List HostMove),
    ((∃ e, decode w = .error e) ↔
      fieldOp w ∉ ([0x01, 0x02, 0x03, 0x04, 0x05, 0x06, 0x07, 0x10, 0x11, 0x12, 0x13, 0x14, 0x15] : List Byte))
    ∧ (s.moves = .request w :: rest →
        fieldOp w ∉ ([0x01, 0x02, 0x03, 0x04, 0x05, 0x06, 0x07, 0x10, 0x11, 0x12, 0x13, 0x14, 0x15] : List Byte) →
        step s = .next { s with
          refused := true, refuseReason := some .reservedOpcode, moves := rest, pc := s.pc + 1 })

/-! ### Steps and reset -/

/-- Where the host's next move is a request that decodes to an operation, the step is that operation's effect, after which
the request is retired and the index is one more (10_state.md R10, R30; the request list in State is log entry 4). -/
def Obligations.StepRunsDecodedRequest : Prop :=
  ∀ (s : State) (w : ReqWord) (rest : List HostMove) (i : Instr),
    s.moves = .request w :: rest → decode w = .ok i →
      (∀ t, exec i s = .next t → step s = .next { t with moves := t.moves.tail, pc := t.pc + 1 })
      ∧ (∀ f, exec i s = .fault f → step s = .fault f)
      ∧ (∀ r, exec i s = .refused r → step s = .refused r)

/-- The model's choice (log entries 5 and 6): with no move to come a step changes nothing; a host write is taken at the
machine's own configuration, and, on every configuration, of a word that PIXBUF has it writes that word and nothing else, of
a word it does not have it stops. On a canonical PIXBUF (log entry 12) the word written then reads as the value, and every
other word as before. -/
def Obligations.WaitingAndHostWrites : Prop :=
  ∀ s : State,
    (s.moves = [] → step s = .next s)
    ∧ (∀ a v rest, s.moves = .setPixel a v :: rest →
        step s = hostSetPixel Config.current a v s
        ∧ ∀ c : Cfg,
          (a < c.pixbufSize →
            hostSetPixel c a v s = .next { s with pixbuf := Memory.write s.pixbuf a v, moves := rest })
          ∧ (c.pixbufSize ≤ a → hostSetPixel c a v s = .fault .pixbufNoWord))
    ∧ (Memory.wf s.pixbuf → ∀ (a : Nat) (v : U16) (b : Nat),
        Memory.read (Memory.write s.pixbuf a v) b = if b = a then v else Memory.read s.pixbuf b)

/-- Every finite list of requests, whatever its words, runs to its end from every state of a DRV that is as INIT and SETROT
leave it: each request completes or is refused, none is left, and the index counts them all (70_reset_and_hazards.md R187,
10_state.md R30; the request list in State is log entry 4, the run going on after a refusal log entry 7). -/
def Obligations.RequestListRunsToItsEnd : Prop :=
  ∀ (ws : List ReqWord) (s : State), DrvInv Config.current s →
    ∃ t, runRequests ws s = .next t ∧ t.moves = [] ∧ t.pc = s.pc + ws.length ∧ DrvInv Config.current t

/-- The index advances by exactly one with each request, completed or refused, and the next move is the host's next
(10_state.md R30; the request list in State is log entry 4). -/
def Obligations.RequestIndexAdvancesByOne : Prop :=
  ∀ (s t : State) (w : ReqWord) (rest : List HostMove),
    s.moves = .request w :: rest → step s = .next t → t.pc = s.pc + 1 ∧ t.moves = rest

/-- Block reset leaves every register for which 10_state.md R33 gives a value at that value. -/
def Obligations.ResetRegisterValues : Prop :=
  State.reset.drvReady = false ∧ State.reset.tx = [] ∧ State.reset.count = 0 ∧ State.reset.spin = 0
    ∧ State.reset.gameState = .play ∧ State.reset.fcnt = 0 ∧ State.reset.fphase = false
    ∧ State.reset.btnPrev = false ∧ State.reset.refused = false

/-! ### Operations of ENG -/

/-- ENGINIT sets the six engine registers and changes nothing else (41_engine_ops.md R120). -/
def Obligations.EnginitResult : Prop :=
  ∀ s : State, exec .enginit s = .next { s with
    gameState := .play, count := 0, spin := 0, fcnt := 0, fphase := false, btnPrev := false }

/-- WRAP answers in RESP the one slot congruent to its operand, which is the value of the document's formula, and changes
nothing else; and the laws of `wrap` over all integers (41_engine_ops.md R122, R129 (1)). -/
def Obligations.WrapResultAndLaws : Prop :=
  (∀ (i : Int) (s : State), IsS16 i →
    ∃ r : U16, r.toNat < 24 ∧ (24 : Int) ∣ i - (r.toNat : Int)
      ∧ (r.toNat : Int) = Int.tmod (Int.tmod i 24 + 24) 24
      ∧ exec (.wrap i) s = .next { s with resp := r })
  ∧ ∀ i k : Int, wrap i = Int.tmod (Int.tmod i 24 + 24) 24 ∧ wrap (wrap i) = wrap i ∧ (0 ≤ wrap i ∧ wrap i < 24)
      ∧ wrap (i + 24 * k) = wrap i ∧ (wrap i = i ↔ 0 ≤ i ∧ i < 24)

/-- WRAPDIFF answers in RESP, sign-extended, the one representative of a - b modulo 24 in (-12, 12], and changes nothing
else; and the laws of `wrap_diff` over all integers: its range, zero exactly on equal slots, antisymmetric except at half a
turn, where it is 12 both ways (41_engine_ops.md R123). -/
def Obligations.WrapdiffResultAndLaws : Prop :=
  (∀ (a b : Int) (s : State), IsS16 a → IsS16 b →
    ∃ r : U16, -12 < r.toInt ∧ r.toInt ≤ 12 ∧ (24 : Int) ∣ (a - b) - r.toInt
      ∧ exec (.wrapdiff a b) s = .next { s with resp := r })
  ∧ ∀ a b : Int, (-12 < wrapDiff a b ∧ wrapDiff a b ≤ 12) ∧ (24 : Int) ∣ (a - b) - wrapDiff a b
      ∧ wrapDiff a a = 0 ∧ (wrapDiff a b = 0 ↔ wrap a = wrap b)
      ∧ (¬ (24 : Int) ∣ (a - b) - 12 → wrapDiff a b = -wrapDiff b a)
      ∧ ((24 : Int) ∣ (a - b) - 12 → wrapDiff a b = 12 ∧ wrapDiff b a = 12)

/-- COLLIDE answers 1 exactly where a stored needle's distance from the candidate is less than one slot, 0 otherwise, and
changes nothing else; where the stored needles are slots, that is exact coincidence with wrap(c) (41_engine_ops.md R124). -/
def Obligations.CollideResult : Prop :=
  ∀ (c : Int) (s : State), IsS16 c →
    ((∃ k n, k < s.count.val ∧ s.needles[k]? = some n ∧ (wrapDiff c (n.toNat : Int)).natAbs < 1) →
      exec (.collide c) s = .next { s with resp := 1 })
    ∧ ((¬ ∃ k n, k < s.count.val ∧ s.needles[k]? = some n ∧ (wrapDiff c (n.toNat : Int)).natAbs < 1) →
      exec (.collide c) s = .next { s with resp := 0 })
    ∧ (EngInv s →
      ((∃ k n, k < s.count.val ∧ s.needles[k]? = some n ∧ (wrapDiff c (n.toNat : Int)).natAbs < 1)
        ↔ ∃ k n, k < s.count.val ∧ s.needles[k]? = some n ∧ (n.toNat : Int) = wrap c))

/-- RPOS answers the rendered position of a valid entry, and is refused with NeedleIndex at or past COUNT; nothing else
changes (41_engine_ops.md R126, 60_exceptions.md R150; the reason field is the model's, log entry 8). -/
def Obligations.RposResult : Prop :=
  ∀ (k : Nat) (s : State), IsU5 k →
    (∀ n, k < s.count.val → s.needles[k]? = some n →
      ∃ r : U16, r.toNat = (n.toNat + s.spin.toNat) % 24 ∧ exec (.rpos k) s = .next { s with resp := r })
    ∧ (s.count.val ≤ k →
      exec (.rpos k) s = .next { s with refused := true, refuseReason := some .needleIndex })

/-- FRAME in PLAY with no rising edge samples the button and advances SPIN by one slot; nothing else changes
(41_engine_ops.md R121). -/
def Obligations.FrameInPlayWithoutEdge : Prop :=
  ∀ (level : Bool) (s : State), s.gameState = .play → ¬ (s.btnPrev = false ∧ level = true) →
    ∃ sp : BitVec 5, sp.toNat = (s.spin.toNat + 1) % 24
      ∧ exec (.frame level) s = .next { s with btnPrev := level, spin := sp }

/-- FRAME in PLAY on a rising edge: with cand = wrap(18 - SPIN) of before the advance, it enters FLASH and stores nothing
where cand collides or COUNT is 30, and otherwise stores cand as the entry at COUNT and counts it; SPIN then advances, and
nothing else changes (41_engine_ops.md R125, R121). -/
def Obligations.FramePlacementOnEdge : Prop :=
  ∀ s : State, s.gameState = .play → s.btnPrev = false →
    ∃ sp cand : BitVec 5, sp.toNat = (s.spin.toNat + 1) % 24
      ∧ (cand.toNat : Int) = (18 - (s.spin.toNat : Int)) % 24
      ∧ (((∃ k n, k < s.count.val ∧ s.needles[k]? = some n ∧ (wrapDiff (cand.toNat : Int) (n.toNat : Int)).natAbs < 1)
            ∨ s.count.val = 30) →
          exec (.frame true) s = .next { s with
            gameState := .flash, fcnt := 0, fphase := false, btnPrev := true, spin := sp })
      ∧ ((¬ ∃ k n, k < s.count.val ∧ s.needles[k]? = some n ∧ (wrapDiff (cand.toNat : Int) (n.toNat : Int)).natAbs < 1) →
          ∀ h : s.count.val < 30,
            exec (.frame true) s = .next { s with
              needles := s.needles.set s.count.val cand h, count := ⟨s.count.val + 1, by omega⟩,
              btnPrev := true, spin := sp })

/-- FRAME in FLASH toggles and counts; SPIN advances; at the sixth toggle the same step leaves FLASH with an empty needle
set, SPIN 0 and the button memory clear; nothing else changes and no needle is placed (41_engine_ops.md R121). -/
def Obligations.FrameInFlash : Prop :=
  ∀ (level : Bool) (s : State), s.gameState = .flash →
    (s.fcnt ≠ 5 → ∃ sp : BitVec 5, sp.toNat = (s.spin.toNat + 1) % 24
      ∧ exec (.frame level) s = .next { s with
          btnPrev := level, fphase := !s.fphase, fcnt := s.fcnt + 1, spin := sp })
    ∧ (s.fcnt = 5 → exec (.frame level) s = .next { s with
        gameState := .play, count := 0, spin := 0, btnPrev := false, fcnt := 0, fphase := false })

/-- FLASH lasts exactly six frames after the step that entered it, whatever the button does: before the sixth the needle set
is unchanged, after it the machine is in PLAY with no needle and SPIN 0 (41_engine_ops.md R121 (c), R129 (5)). -/
def Obligations.FlashLastsSixFrames : Prop :=
  ∀ (s : State) (levels : List Bool), s.gameState = .flash → s.fcnt = 0 → levels.length ≤ 6 →
    ∃ t, execAll (levels.map Instr.frame) s = .next t
      ∧ (levels.length < 6 → t.gameState = .flash ∧ t.fcnt.toNat = levels.length ∧ t.valid = s.valid)
      ∧ (levels.length = 6 → t.gameState = .play ∧ t.valid = [] ∧ t.spin = 0 ∧ t.btnPrev = false ∧ t.fcnt = 0
          ∧ t.fphase = false)

/-- A button held at 1 through the end of FLASH is an edge again on the first PLAY frame, and places a needle at slot 18
(41_engine_ops.md R121 (d)). -/
def Obligations.HeldButtonPlacesAfterFlash : Prop :=
  ∀ s : State, s.gameState = .flash → s.fcnt = 5 →
    ∃ t, execAll [.frame true, .frame true] s = .next t ∧ t.gameState = .play ∧ t.valid = [18] ∧ t.spin = 1

/-- A needle placed in a frame is rendered at slot 19 after it, for every spin (41_engine_ops.md R121 (f)). -/
def Obligations.NewNeedleRendersAtNineteen : Prop :=
  ∀ s t : State, s.spin.toNat < 24 → exec (.frame true) s = .next t → t.count.val = s.count.val + 1 →
    exec (.rpos s.count.val) t = .next { t with resp := 19 }

/-- After a needle is appended, a candidate at its slot collides at once (41_engine_ops.md R129 (3)). -/
def Obligations.PlacedNeedleCollidesAtOnce : Prop :=
  ∀ s t : State, exec (.frame true) s = .next t → t.count.val = s.count.val + 1 →
    ∃ n, t.needles[s.count.val]? = some n ∧ exec (.collide (n.toNat : Int)) t = .next { t with resp := 1 }

/-- The six laws of ENG that the document states: `wrap`, `wrap_diff`, the collision after an append, the full set, the length
of FLASH, and the scenario (41_engine_ops.md R129). -/
def Obligations.StatedEngineLaws : Prop :=
  WrapLaw ∧ WrapDiffLaw ∧ AppendCollidesLaw ∧ CapacityLaw ∧ FlashLaw ∧ ScenarioLaw

/-- A full turn takes 24 frames: with the button at 0 in PLAY, 24 frames change nothing but the button memory
(70_reset_and_hazards.md R186). -/
def Obligations.FullTurnInTwentyFourFrames : Prop :=
  ∀ s : State, s.gameState = .play → s.spin.toNat < 24 →
    execAll (List.replicate 24 (.frame false)) s = .next { s with btnPrev := false }

/-- Distinct valid needles are rendered at distinct slots (41_engine_ops.md R126). -/
def Obligations.RenderedPositionsDistinct : Prop :=
  ∀ (s t u : State) (j k : Nat), EngInv s → j < k → k < s.count.val →
    exec (.rpos j) s = .next t → exec (.rpos k) s = .next u → t.resp ≠ u.resp

/-! ### Operations of DRV -/

/-- PACK565 answers the three channels' upper bits in the fields 15:11, 10:5 and 4:0, and changes nothing else
(40_driver_ops.md R108). -/
def Obligations.PackResult : Prop :=
  ∀ (r g b : Byte) (s : State),
    ∃ v : U16, v.extractLsb' 11 5 = r.extractLsb' 3 5 ∧ v.extractLsb' 5 6 = g.extractLsb' 2 6
      ∧ v.extractLsb' 0 5 = b.extractLsb' 3 5
      ∧ exec (.pack565 r g b) s = .next { s with resp := v }

/-- Before INIT, the five other operations of the controller are refused with NotReady and change nothing but the refusal
mark (60_exceptions.md R147; the reason field is the model's, log entry 8). -/
def Obligations.NotReadyRefused : Prop :=
  ∀ (s : State) (i : Instr), s.drvReady = false →
    ((∃ m, i = .setrot m) ∨ (∃ x0 y0 x1 y1, i = .setwin x0 y0 x1 y1)
      ∨ (∃ x0 y0 x1 y1 p n, i = .fillwin x0 y0 x1 y1 p n) ∨ (∃ c, i = .fillscr c)
      ∨ (∃ x y c, i = .drawpix x y c)) →
    exec i s = .next { s with refused := true, refuseReason := some .notReady }

/-- INIT refuses a panel with a zero side or larger than the controller; any other it brings up: the geometry, rotation and
offset registers, one row of background in ROWBUF, the whole event sequence in its order, then DRV_READY; nothing else
changes (40_driver_ops.md R100, 60_exceptions.md R149; the reason field is the model's, log entry 8, and the exact DELAY
values 10 and 15 are log entry 17; that ROWBUF is canonical is kept by every step, `Obligations.MemoryFormKept`). -/
def Obligations.InitResult : Prop :=
  ∀ (width height : U16) (rotation : Byte) (s : State), Memory.wf s.rowbuf →
    let c := Config.current
    let r : BitVec 2 := BitVec.ofNat 2 (rotation.toNat % 4)
    let g := c.geomClass width height
    let o := c.offset g width height r
    ((width = 0 ∨ height = 0 ∨ c.ctrlCols < width.toNat ∨ 320 < height.toNat) →
      exec (.init width height rotation) s = .next { s with
        refused := true, refuseReason := some .geometryUnsupported })
    ∧ (¬ (width = 0 ∨ height = 0 ∨ c.ctrlCols < width.toNat ∨ 320 < height.toNat) →
      ∃ row : Memory, (∀ k, Memory.read row k = if k < width.toNat then c.bgColor else Memory.read s.rowbuf k)
        ∧ exec (.init width height rotation) s = .next { s with
            drvReady := true, width := width, height := height, geom := g, rot := r,
            xstart := o.1, ystart := o.2, rowbuf := row,
            tx := s.tx
              ++ [.rst true, .delay 10, .rst false, .delay 10,
                  .cmd (c.cmd .swreset), .delay 15,
                  .cmd (c.cmd .colmod), .data [c.colmod16bit],
                  .cmd (c.cmd .madctl), .data [c.initMadctlData],
                  .cmd (c.cmd .caset), .data c.initCaset.toList,
                  .cmd (c.cmd .raset), .data c.initRaset.toList,
                  .cmd (c.cmd .invon), .delay c.tInvon,
                  .cmd (c.cmd .noron), .delay c.tNoron,
                  .cmd (c.cmd .dispon), .delay c.tDispon,
                  .cmd (c.cmd .madctl), .data [c.madctlData r],
                  .cmd (c.cmd .caset), .data (be16 o.1 ++ be16 (width - 1 + o.1)),
                  .cmd (c.cmd .raset), .data (be16 o.2 ++ be16 (height - 1 + o.2)),
                  .cmd (c.cmd .ramwr)]
              ++ (List.replicate height.toNat (stream (fun _ => c.bgColor) width.toNat)).flatten
              ++ [.bl true] })

/-- The number of events an accepted INIT appends (40_driver_ops.md R100, corner cases). -/
def Obligations.InitEventCount : Prop :=
  ∀ (width height : U16) (rotation : Byte) (s t : State),
    width ≠ 0 → height ≠ 0 → width.toNat ≤ Config.current.ctrlCols → height.toNat ≤ 320 →
    exec (.init width height rotation) s = .next t →
    t.tx.length = s.tx.length + (22 + 5 + height.toNat * ((width.toNat + 59) / 60) + 1)

/-- INIT of the 240×240 panel at a rotation that is 0 modulo 4 completes from every state and leaves the offset pair (0, 80)
(10_state.md R15, 40_driver_ops.md R109; that the controller has 240 columns is log entry 3). -/
def Obligations.SquarePanelOffsetPair : Prop :=
  ∀ (rotation : Byte) (s : State), rotation.toNat % 4 = 0 →
    ∃ t, exec (.init 240 240 rotation) s = .next t ∧ t.xstart = 0 ∧ t.ystart = 80 ∧ t.geom = .squareRj
      ∧ t.drvReady = true

/-- SETROT takes m modulo 4, sends the memory-access-control frame of that rotation and takes its offset pair; WIDTH and
HEIGHT, and everything else, are unchanged; before INIT it is refused (40_driver_ops.md R101; the reason field is the
model's, log entry 8). -/
def Obligations.SetrotResult : Prop :=
  ∀ (m : Byte) (s : State),
    let c := Config.current
    let r : BitVec 2 := BitVec.ofNat 2 (m.toNat % 4)
    let o := c.offset s.geom s.width s.height r
    (s.drvReady = true → exec (.setrot m) s = .next { s with
      rot := r, xstart := o.1, ystart := o.2,
      tx := s.tx ++ [.cmd (c.cmd .madctl), .data [c.madctlData r]] })
    ∧ (s.drvReady = false → exec (.setrot m) s = .next { s with
      refused := true, refuseReason := some .notReady })

/-- SETWIN appends the five events of the window, the offset pair added to each corner modulo 2^16 and each operand most
significant byte first, and changes nothing else; before INIT it is refused (40_driver_ops.md R102, R103; the reason field
is the model's, log entry 8). -/
def Obligations.SetwinResult : Prop :=
  ∀ (x0 y0 x1 y1 : U16) (s : State),
    let c := Config.current
    let hi (v p : U16) : Byte := BitVec.ofNat 8 ((v.toNat + p.toNat) % 65536 / 256)
    let lo (v p : U16) : Byte := BitVec.ofNat 8 ((v.toNat + p.toNat) % 256)
    (s.drvReady = true → exec (.setwin x0 y0 x1 y1) s = .next { s with
      tx := s.tx ++
        [.cmd (c.cmd .caset), .data [hi x0 s.xstart, lo x0 s.xstart, hi x1 s.xstart, lo x1 s.xstart],
         .cmd (c.cmd .raset), .data [hi y0 s.ystart, lo y0 s.ystart, hi y1 s.ystart, lo y1 s.ystart],
         .cmd (c.cmd .ramwr)] })
    ∧ (s.drvReady = false → exec (.setwin x0 y0 x1 y1) s = .next { s with
      refused := true, refuseReason := some .notReady })

/-- What `stream` emits, for every source and count: the bytes are the colours in order, most significant byte first; there
are ceil(count/60) events; the one at index k is a burst of the 60 pixels, or the remainder, from pixel 60k on
(40_driver_ops.md R104). -/
def Obligations.StreamBytesAndBursts : Prop :=
  ∀ (src : Nat → U16) (count : Nat),
    dataBytes (stream src count) = (List.range count).flatMap (fun i => be16 (src i))
    ∧ (stream src count).length = (count + 59) / 60
    ∧ (∀ k, k < (count + 59) / 60 → ∃ bs, (stream src count)[k]? = some (.data bs)
        ∧ bs.length = 2 * min 60 (count - 60 * k) ∧ 1 ≤ bs.length ∧ bs.length ≤ 120)

/-- FILLWIN is refused before INIT, and where the words it would read pass the end of PIXBUF; otherwise it appends the window
and the stream of the words P .. P+count-1 and changes nothing else. It runs at the machine's own configuration, and the
refusal past the end is stated for every configuration, since PIXBUF_SIZE is open and may pass every P + count
(40_driver_ops.md R105, 60_exceptions.md R148; the reason field is the model's, log entry 8). -/
def Obligations.FillwinResult : Prop :=
  ∀ (x0 y0 x1 y1 : U16) (p n : Nat) (s : State), IsU32 p → IsU32 n →
    let c := Config.current
    exec (.fillwin x0 y0 x1 y1 p n) s = fillwinOn c x0 y0 x1 y1 p n s
    ∧ (s.drvReady = true → p + n ≤ c.pixbufSize → exec (.fillwin x0 y0 x1 y1 p n) s = .next { s with
      tx := s.tx ++
        [.cmd (c.cmd .caset), .data (be16 (x0 + s.xstart) ++ be16 (x1 + s.xstart)),
         .cmd (c.cmd .raset), .data (be16 (y0 + s.ystart) ++ be16 (y1 + s.ystart)),
         .cmd (c.cmd .ramwr)]
        ++ stream (fun i => Memory.read s.pixbuf (p + i)) n })
    ∧ (∀ d : Cfg, s.drvReady = true → d.pixbufSize < p + n → fillwinOn d x0 y0 x1 y1 p n s = .next { s with
      refused := true, refuseReason := some .pixbufRange })
    ∧ (s.drvReady = false → exec (.fillwin x0 y0 x1 y1 p n) s = .next { s with
      refused := true, refuseReason := some .notReady })

/-- On every configuration, a FILLWIN that runs sends, after the eleven bytes of the window, exactly `count` colours of
PIXBUF in ascending order, each most significant byte first, as data (40_driver_ops.md R105, 30_encoding.md R73). -/
def Obligations.FillwinWireColours : Prop :=
  ∀ (c : Cfg) (x0 y0 x1 y1 : U16) (p n : Nat) (s t : State), s.drvReady = true → p + n ≤ c.pixbufSize →
    fillwinOn c x0 y0 x1 y1 p n s = .next t →
    ∃ es, t.tx = s.tx ++ es ∧ es.length = 5 + (n + 59) / 60
      ∧ wire es =
          [(.command, c.cmd .caset)] ++ (be16 (x0 + s.xstart) ++ be16 (x1 + s.xstart)).map (fun b => (.data, b))
          ++ [(.command, c.cmd .raset)] ++ (be16 (y0 + s.ystart) ++ be16 (y1 + s.ystart)).map (fun b => (.data, b))
          ++ [(.command, c.cmd .ramwr)]
          ++ ((List.range n).flatMap fun i => be16 (Memory.read s.pixbuf (p + i))).map (fun b => (.data, b))

/-- FILLSCR is refused before INIT; otherwise, where ROWBUF has an entry for every column, it fills the row buffer, appends
the full-panel window and streams the row once for every row of the panel, and changes nothing else
(40_driver_ops.md R106; the reason field is the model's, log entry 8, and WIDTH - 1 and HEIGHT - 1 are taken to 16 bits, log
entry 16; the form with WIDTH past ROWBUF is `Obligations.FillscrPastRowBufferStops`, and that WIDTH is within ROWBUF and
ROWBUF canonical is kept by every step, `Obligations.DriverInvariantKept` and `Obligations.MemoryFormKept`). -/
def Obligations.FillscrResult : Prop :=
  ∀ (color : U16) (s : State), Memory.wf s.rowbuf →
    let c := Config.current
    (s.drvReady = true → s.width.toNat ≤ c.ctrlCols →
      ∃ row : Memory, (∀ k, Memory.read row k = if k < s.width.toNat then color else Memory.read s.rowbuf k)
        ∧ exec (.fillscr color) s = .next { s with
            rowbuf := row,
            tx := s.tx ++
              [.cmd (c.cmd .caset), .data (be16 s.xstart ++ be16 (s.width - 1 + s.xstart)),
               .cmd (c.cmd .raset), .data (be16 s.ystart ++ be16 (s.height - 1 + s.ystart)),
               .cmd (c.cmd .ramwr)]
              ++ (List.replicate s.height.toNat (stream (fun _ => color) s.width.toNat)).flatten })
    ∧ (s.drvReady = false → exec (.fillscr color) s = .next { s with
      refused := true, refuseReason := some .notReady })

/-- The model's choice (log entry 15): FILLSCR stops by name where WIDTH passes the end of ROWBUF, which has CTRL_COLS
entries (10_state.md R16). -/
def Obligations.FillscrPastRowBufferStops : Prop :=
  ∀ (color : U16) (s : State), s.drvReady = true → Config.current.ctrlCols < s.width.toNat →
    exec (.fillscr color) s = .fault .rowbufRange

/-- The events of a FILLSCR that runs are the five of the full-panel window, then HEIGHT × ceil(WIDTH/60) bursts, each a
DATA event of 1 to 120 bytes, whose bytes are the colour, most significant byte first, WIDTH × HEIGHT times
(40_driver_ops.md R106, corner cases, R104; WIDTH - 1 and HEIGHT - 1 are taken to 16 bits, log entry 16). -/
def Obligations.FillscrPixelBytes : Prop :=
  ∀ (color : U16) (s t : State), Memory.wf s.rowbuf → s.drvReady = true → exec (.fillscr color) s = .next t →
    let c := Config.current
    ∃ pixels, t.tx = s.tx ++
        [.cmd (c.cmd .caset), .data (be16 s.xstart ++ be16 (s.width - 1 + s.xstart)),
         .cmd (c.cmd .raset), .data (be16 s.ystart ++ be16 (s.height - 1 + s.ystart)),
         .cmd (c.cmd .ramwr)] ++ pixels
      ∧ (∀ e ∈ pixels, ∃ bs, e = .data bs ∧ 1 ≤ bs.length ∧ bs.length ≤ 120)
      ∧ pixels.length = s.height.toNat * ((s.width.toNat + 59) / 60)
      ∧ dataBytes pixels = (List.replicate (s.width.toNat * s.height.toNat) (be16 color)).flatten

/-- DRAWPIX is refused before INIT; off the panel it completes with no change at all; in the panel it appends a 1×1 window
and one colour, most significant byte first, and changes nothing else (40_driver_ops.md R107; the reason field is the
model's, log entry 8). -/
def Obligations.DrawpixResult : Prop :=
  ∀ (x y color : U16) (s : State),
    let c := Config.current
    (s.drvReady = true → (s.width.toNat ≤ x.toNat ∨ s.height.toNat ≤ y.toNat) →
      exec (.drawpix x y color) s = .next s)
    ∧ (s.drvReady = true → x.toNat < s.width.toNat → y.toNat < s.height.toNat →
      exec (.drawpix x y color) s = .next { s with
        tx := s.tx ++
          [.cmd (c.cmd .caset), .data (be16 (x + s.xstart) ++ be16 (x + s.xstart)),
           .cmd (c.cmd .raset), .data (be16 (y + s.ystart) ++ be16 (y + s.ystart)),
           .cmd (c.cmd .ramwr),
           .data [BitVec.ofNat 8 (color.toNat / 256), BitVec.ofNat 8 (color.toNat % 256)]] })
    ∧ (s.drvReady = false → exec (.drawpix x y color) s = .next { s with
      refused := true, refuseReason := some .notReady })

/-- On every configuration, an in-panel DRAWPIX is the FILLWIN of one word of that colour over the same 1×1 window
(30_encoding.md R64 (a)). -/
def Obligations.DrawpixIsOnePixelFillwin : Prop :=
  ∀ (c : Cfg) (x y color : U16) (p : Nat) (s : State),
    x.toNat < s.width.toNat → y.toNat < s.height.toNat → p + 1 ≤ c.pixbufSize → Memory.read s.pixbuf p = color →
    drawpixOn c x y color s = fillwinOn c x y x y p 1 s

/-- On every configuration, FILLSCR puts on the wire the bytes of a FILLWIN of the whole panel over a buffer full of the
colour, and the same events where WIDTH is a multiple of 60 (30_encoding.md R64 (b)). -/
def Obligations.FillscrIsFullPanelFillwin : Prop :=
  ∀ (c : Cfg) (color : U16) (p : Nat) (s : State), s.drvReady = true → Memory.wf s.rowbuf →
    s.width.toNat ≤ c.ctrlCols → p + s.width.toNat * s.height.toNat ≤ c.pixbufSize →
    (∀ i, i < s.width.toNat * s.height.toNat → Memory.read s.pixbuf (p + i) = color) →
    ∃ t u, fillscrOn c color s = .next t
      ∧ fillwinOn c 0 0 (s.width - 1) (s.height - 1) p (s.width.toNat * s.height.toNat) s = .next u
      ∧ wire t.tx = wire u.tx ∧ (s.width.toNat % 60 = 0 → t.tx = u.tx)

/-- On a ready panel, adding the offset pair to in-panel coordinates never wraps: each sum is below CTRL_COLS + CTRL_ROWS,
which is below 2^16, so the controller coordinate is the plain sum (20_memory.md R48; the offsets' bound is held by
construction, log entry 26). -/
def Obligations.InPanelSumsDoNotWrap : Prop :=
  ∀ (x y : U16) (s : State), DrvInv Config.current s → s.drvReady = true →
    x.toNat < s.width.toNat → y.toNat < s.height.toNat →
    Config.current.ctrlCols + 320 < 2 ^ 16
      ∧ (x.toNat + s.xstart.toNat < Config.current.ctrlCols + 320
          ∧ (x + s.xstart).toNat = x.toNat + s.xstart.toNat)
      ∧ (y.toNat + s.ystart.toNat < Config.current.ctrlCols + 320
          ∧ (y + s.ystart).toNat = y.toNat + s.ystart.toNat)

/-- In every configuration the nine command bytes are pairwise distinct, and are the configured ones wherever those are
distinct (30_encoding.md R74; held by construction, log entry 2). -/
def Obligations.CommandBytesDistinct : Prop :=
  ∀ c : Cfg, (∀ j k : Command, c.cmd j = c.cmd k → j = k)
    ∧ ((∀ j k : Command, c.openCmd j = c.openCmd k → j = k) → ∀ k, c.cmd k = c.openCmd k)

/-- In the pin-level expansion of any trace, every send is followed at once by the completion wait, and only then is
chip-select released (30_encoding.md R71, 20_memory.md R51). -/
def Obligations.EverySendIsWaitedFor : Prop :=
  ∀ (tx : List Event) (k : Nat) (bs : List Byte), (expandTrace tx)[k]? = some (.send bs) →
    (expandTrace tx)[k + 1]? = some .wait ∧ (expandTrace tx)[k + 2]? = some (.csPin false)

/-! ### Frames over all operations -/

/-- TX is append-only: a step only adds events after those already there (10_state.md R17). -/
def Obligations.TraceAppendOnly : Prop :=
  ∀ s t : State, step s = .next t → ∃ es, t.tx = s.tx ++ es

/-- REFUSED is never cleared: once set, it is set after every step (60_exceptions.md R146). -/
def Obligations.RefusedSticky : Prop :=
  ∀ s t : State, s.refused = true → step s = .next t → t.refused = true

/-- An operation that sets REFUSED changes no other register and emits no event: the state after it is the state before
with the mark and the model's record of the reason (60_exceptions.md R145; log entry 8). -/
def Obligations.RefusalIsAtomic : Prop :=
  ∀ (i : Instr) (s t : State), exec i s = .next t → s.refused = false → t.refused = true →
    ∃ r, t = { s with refused := true, refuseReason := some r }

/-- Every operation completes or is refused in the spec's sense, with a next state, in every state whose row buffer holds
the panel's row: none stops the machine (60_exceptions.md R140, R145). -/
def Obligations.EveryOperationAnswersNext : Prop :=
  ∀ (i : Instr) (s : State), (s.drvReady = true → s.width.toNat ≤ Config.current.ctrlCols) →
    ∃ t, exec i s = .next t

/-- No operation writes PIXBUF, the request list or the request index (20_memory.md R41, 10_state.md R30). -/
def Obligations.OperationsLeaveBufferAndRequests : Prop :=
  ∀ (i : Instr) (s t : State), exec i s = .next t →
    t.pixbuf = s.pixbuf ∧ t.moves = s.moves ∧ t.pc = s.pc

/-- RESP is written only by WRAP, WRAPDIFF, COLLIDE, RPOS and PACK565 (10_state.md R28). -/
def Obligations.RespWrittenByFive : Prop :=
  ∀ (i : Instr) (s t : State), exec i s = .next t → t.resp ≠ s.resp →
    (∃ n, i = .wrap n) ∨ (∃ a b, i = .wrapdiff a b) ∨ (∃ c, i = .collide c) ∨ (∃ k, i = .rpos k)
      ∨ (∃ r g b, i = .pack565 r g b)

/-- Only INIT writes WIDTH, HEIGHT, GEOM and DRV_READY; only INIT and SETROT write ROT, XSTART and YSTART; only INIT and
FILLSCR write ROWBUF (10_state.md R11 to R16). -/
def Obligations.DriverRegistersWriters : Prop :=
  ∀ (i : Instr) (s t : State), exec i s = .next t →
    ((∃ w h r, i = .init w h r)
      ∨ (t.width = s.width ∧ t.height = s.height ∧ t.geom = s.geom ∧ t.drvReady = s.drvReady))
    ∧ ((∃ w h r, i = .init w h r) ∨ (∃ m, i = .setrot m)
      ∨ (t.rot = s.rot ∧ t.xstart = s.xstart ∧ t.ystart = s.ystart))
    ∧ ((∃ w h r, i = .init w h r) ∨ (∃ c, i = .fillscr c) ∨ t.rowbuf = s.rowbuf)

/-- The units share no state: an operation of DRV leaves every ENG register alone and its effect depends on no ENG register,
and the same the other way round (00_scope.md R1). -/
def Obligations.UnitsShareNoState : Prop :=
  ∀ (i : Instr) (s s' t : State), exec i s = .next t → SameAnswers s s' →
    (isDrv i = true → SameEng s t ∧
      (SameDrv s s' → ∃ t', exec i s' = .next t' ∧ SameDrv t t' ∧ SameAnswers t t'))
    ∧ (isDrv i = false → SameDrv s t ∧
      (SameEng s s' → ∃ t', exec i s' = .next t' ∧ SameEng t t' ∧ SameAnswers t t'))

/-- The game leaves PLAY for FLASH only in a FRAME with a rising edge whose candidate collides or finds the set full, and
that step saves nothing and leaves the needle file and COUNT as they were (60_exceptions.md R153). -/
def Obligations.OnlyFailedPlacementEntersFlash : Prop :=
  ∀ (i : Instr) (s t : State), exec i s = .next t → s.gameState = .play → t.gameState = .flash →
    i = .frame true ∧ s.btnPrev = false
      ∧ ((∃ k n, k < s.count.val ∧ s.needles[k]? = some n
            ∧ (wrapDiff (18 - (s.spin.toNat : Int)) (n.toNat : Int)).natAbs < 1) ∨ s.count.val = 30)
      ∧ t = { s with gameState := .flash, fcnt := 0, fphase := false, btnPrev := true, spin := t.spin }

/-- The needle file is append-only between clearings: an operation leaves the valid entries as they are, adds one after the
last, or makes them all invalid together; no stored entry is moved or overwritten (10_state.md R20). -/
def Obligations.NeedleFileAppendOnly : Prop :=
  ∀ (i : Instr) (s t : State), exec i s = .next t →
    (t.valid = s.valid ∨ (∃ n, t.valid = s.valid ++ [n]) ∨ t.valid = [])
      ∧ ∀ k : Nat, k ≠ s.count.val → t.needles[k]? = s.needles[k]?

/-! ### Invariants of the machine -/

/-- Block reset meets the four invariants (10_state.md R27, R33). That both word memories are canonical and within their sizes
at reset is the model's choice: R33 leaves ROWBUF unspecified and gives PIXBUF no contents, the model lists nothing in either
(log entries 10 and 11), and the canonical form is the model's own (log entry 12). -/
def Obligations.ResetMeetsInvariants : Prop :=
  EngInv State.reset ∧ DrvInv Config.current State.reset ∧ MemInv Config.current State.reset
    ∧ TraceInv Config.current State.reset

/-- Every step keeps the invariants of ENG: at most 30 needles, each a slot, no two coinciding, SPIN a slot, the flash
counter and phase as the state of the game says (10_state.md R27, I1 to I5). -/
def Obligations.EngineInvariantKept : Prop :=
  ∀ s t : State, EngInv s → step s = .next t → EngInv t

/-- Where the invariants of ENG hold there are at most 24 needles, so the capacity of 30 is never reached
(10_state.md R27). -/
def Obligations.AtMostTwentyFourNeedles : Prop :=
  ∀ s : State, EngInv s → s.count.val ≤ 24

/-- Every step keeps the registers of a ready DRV as INIT and SETROT leave them, the offset pair in agreement with the
memory-access-control byte last sent (70_reset_and_hazards.md R174). -/
def Obligations.DriverInvariantKept : Prop :=
  ∀ s t : State, DrvInv Config.current s → step s = .next t → DrvInv Config.current t

/-- Every step keeps the trace made of whole frames: each command followed by exactly its operand bytes, pixel bytes only
after a write-to-RAM command, in bursts of whole pixels of at most 120 bytes (30_encoding.md R74, 70_reset_and_hazards.md
R173, R175). -/
def Obligations.TraceFramingKept : Prop :=
  ∀ s t : State, TraceInv Config.current s → step s = .next t → TraceInv Config.current t

/-- Every step keeps both word memories canonical and inside their sizes (20_memory.md R41, 10_state.md R16; the canonical
form is the model's, log entry 12). -/
def Obligations.MemoryFormKept : Prop :=
  ∀ s t : State, MemInv Config.current s → step s = .next t → MemInv Config.current t

/-- Canonical memories that read alike are equal (the model's form of PIXBUF and ROWBUF, 20_memory.md R41, log entry 12). -/
def Obligations.CanonicalMemoriesEqual : Prop :=
  ∀ m n : Memory, Memory.wf m → Memory.wf n → (∀ a, Memory.read m a = Memory.read n a) → m = n
end

