-- ==== Sys2Proof/Laws/Decode.lean ====
section
/-! SUPPORT. Each field of a packed word reads back as it was packed, and a word is the packing of its own fields
(30_encoding.md R60). -/

namespace Sys2Proof

variable (op : Byte) (a b c d : U16) (n p : BitVec 32) (w : ReqWord)

/-- Bit `i` of a packed word. -/
theorem packFields_bit (i : Nat) : (packFields op a b c d n p).getLsbD i =
    if i < 8 then op.getLsbD i else if i < 24 then a.getLsbD (i - 8) else if i < 40 then b.getLsbD (i - 24)
    else if i < 56 then c.getLsbD (i - 40) else if i < 72 then d.getLsbD (i - 56)
    else if i < 104 then n.getLsbD (i - 72) else p.getLsbD (i - 104) := by
  show BitVec.getLsbD (w := 32 + 32 + 16 + 16 + 16 + 16 + 8) (p ++ n ++ d ++ c ++ b ++ a ++ op) i = _
  simp only [BitVec.getLsbD_append]
  grind

@[simp] theorem fieldOp_packFields : fieldOp (packFields op a b c d n p) = op := by
  refine BitVec.eq_of_getLsbD_eq fun i hi => ?_
  simp [fieldOp, packFields_bit, hi]

@[simp] theorem fieldA_packFields : fieldA (packFields op a b c d n p) = a := by
  refine BitVec.eq_of_getLsbD_eq fun i hi => ?_
  simp [fieldA, packFields_bit, hi, show ¬ 8 + i < 8 by omega, show 8 + i < 24 by omega]

@[simp] theorem fieldB_packFields : fieldB (packFields op a b c d n p) = b := by
  refine BitVec.eq_of_getLsbD_eq fun i hi => ?_
  simp [fieldB, packFields_bit, hi, show ¬ 24 + i < 8 by omega, show ¬ 24 + i < 24 by omega, show 24 + i < 40 by omega]

@[simp] theorem fieldC_packFields : fieldC (packFields op a b c d n p) = c := by
  refine BitVec.eq_of_getLsbD_eq fun i hi => ?_
  simp [fieldC, packFields_bit, hi, show ¬ 40 + i < 8 by omega, show ¬ 40 + i < 24 by omega, show ¬ 40 + i < 40 by omega, show 40 + i < 56 by omega]

@[simp] theorem fieldD_packFields : fieldD (packFields op a b c d n p) = d := by
  refine BitVec.eq_of_getLsbD_eq fun i hi => ?_
  simp [fieldD, packFields_bit, hi, show ¬ 56 + i < 8 by omega, show ¬ 56 + i < 24 by omega, show ¬ 56 + i < 40 by omega, show ¬ 56 + i < 56 by omega, show 56 + i < 72 by omega]

@[simp] theorem fieldN_packFields : fieldN (packFields op a b c d n p) = n := by
  refine BitVec.eq_of_getLsbD_eq fun i hi => ?_
  simp [fieldN, packFields_bit, hi, show ¬ 72 + i < 8 by omega, show ¬ 72 + i < 24 by omega, show ¬ 72 + i < 40 by omega, show ¬ 72 + i < 56 by omega, show ¬ 72 + i < 72 by omega, show 72 + i < 104 by omega]

@[simp] theorem fieldP_packFields : fieldP (packFields op a b c d n p) = p := by
  refine BitVec.eq_of_getLsbD_eq fun i hi => ?_
  simp [fieldP, packFields_bit, hi, show ¬ 104 + i < 8 by omega, show ¬ 104 + i < 24 by omega, show ¬ 104 + i < 40 by omega, show ¬ 104 + i < 56 by omega, show ¬ 104 + i < 72 by omega, show ¬ 104 + i < 104 by omega]

/-- A word is its seven fields (30_encoding.md R60). -/
theorem packFields_fields :
    packFields (fieldOp w) (fieldA w) (fieldB w) (fieldC w) (fieldD w) (fieldN w) (fieldP w) = w := by
  refine BitVec.eq_of_getLsbD_eq fun i hi => ?_
  simp only [packFields_bit, fieldOp, fieldA, fieldB, fieldC, fieldD, fieldN, fieldP, BitVec.getLsbD_extractLsb']
  grind

@[simp] theorem lowByte_byteField (v : Byte) : lowByte (byteField v) = v := by
  refine BitVec.eq_of_getLsbD_eq fun i hi => ?_
  simp [lowByte, byteField, hi, show i < 16 by omega]

end Sys2Proof
end

