-- ==== Sys2Proof/Laws/Memory.lean ====
section
/-! SUPPORT. The laws of word memory: a read after a write, and that every operation keeps the canonical form and stays
within a size. -/

namespace Sys2Proof.Machine

theorem Memory.read_of_lt {m : Memory} {a : Nat} (h : ∀ p ∈ m, a < p.1) : Memory.read m a = unlistedWord := by
  induction m with
  | nil => rfl
  | cons p rest ih =>
    have hp : a < p.1 := h p (by simp)
    simp only [Memory.read, show ¬ p.1 = a by omega, if_false]
    exact ih fun q hq => h q (by simp [hq])

/-- Every address listed after a write is the one written or was listed before. -/
theorem Memory.mem_write {m : Memory} {a : Nat} {v : U16} {p : Nat × U16} (h : p ∈ Memory.write m a v) :
    p ∈ m ∨ (p = (a, v) ∧ v ≠ unlistedWord) := by
  induction m with
  | nil =>
    by_cases hv : v = unlistedWord
    · simp [Memory.write, hv] at h
    · simp only [Memory.write, hv, if_false, List.mem_singleton] at h
      exact .inr ⟨h, hv⟩
  | cons q rest ih =>
    simp only [Memory.write] at h
    split at h
    · split at h
      · exact .inl h
      · rename_i hv
        rcases List.mem_cons.1 h with h | h
        · exact .inr ⟨h, hv⟩
        · exact .inl h
    · split at h
      · split at h
        · exact .inl (List.mem_cons_of_mem _ h)
        · rename_i hv
          rcases List.mem_cons.1 h with h | h
          · exact .inr ⟨h, hv⟩
          · exact .inl (List.mem_cons_of_mem _ h)
      · rcases List.mem_cons.1 h with h | h
        · exact .inl (h ▸ List.mem_cons_self)
        · exact (ih h).imp (List.mem_cons_of_mem _) id

theorem Memory.write_sorted {m : Memory} (a : Nat) (v : U16) (h : m.Pairwise fun p q => p.1 < q.1) :
    (Memory.write m a v).Pairwise fun p q => p.1 < q.1 := by
  induction m with
  | nil => simp only [Memory.write]; split <;> simp
  | cons q rest ih =>
    have hq := List.pairwise_cons.1 h
    simp only [Memory.write]
    split
    · rename_i hlt
      split
      · exact h
      · refine List.pairwise_cons.2 ⟨fun p hp => ?_, h⟩
        rcases List.mem_cons.1 hp with hp | hp
        · exact hp ▸ hlt
        · exact Nat.lt_trans hlt (hq.1 p hp)
    · split
      · rename_i heq
        split
        · exact hq.2
        · exact List.pairwise_cons.2 ⟨fun p hp => heq ▸ hq.1 p hp, hq.2⟩
      · rename_i hnlt hne
        refine List.pairwise_cons.2 ⟨fun p hp => ?_, ih hq.2⟩
        rcases Memory.mem_write hp with hp | hp
        · exact hq.1 p hp
        · rw [hp.1]; show q.1 < a; omega

/-- A write keeps the canonical form. -/
theorem Memory.write_wf {m : Memory} (a : Nat) (v : U16) (h : Memory.wf m) : Memory.wf (Memory.write m a v) := by
  refine ⟨Memory.write_sorted a v h.1, fun p hp => ?_⟩
  rcases Memory.mem_write hp with hp | ⟨rfl, hv⟩
  · exact h.2 p hp
  · exact hv

theorem Memory.write_within {m : Memory} {a size : Nat} (v : U16) (ha : a < size) (h : Memory.within m size) :
    Memory.within (Memory.write m a v) size := by
  intro p hp
  rcases Memory.mem_write hp with hp | ⟨rfl, _⟩
  · exact h p hp
  · exact ha

/-- A read after a write gives the value written at that address and what it gave before at every other. -/
theorem Memory.read_write {m : Memory} (a b : Nat) (v : U16) (h : Memory.wf m) :
    Memory.read (Memory.write m a v) b = if b = a then v else Memory.read m b := by
  replace h := h.1
  induction m with
  | nil =>
    simp only [Memory.write, Memory.read]
    split <;> rename_i hv
    · simp [Memory.read, hv]
    · by_cases hb : b = a
      · simp [Memory.read, hb]
      · simp [Memory.read, hb, Ne.symm hb]
  | cons q rest ih =>
    obtain ⟨c, w⟩ := q
    have hq := List.pairwise_cons.1 h
    have hrest : ∀ x, x ≤ c → Memory.read rest x = unlistedWord := fun x hx =>
      Memory.read_of_lt fun p hp => Nat.lt_of_le_of_lt hx (hq.1 p hp)
    simp only [Memory.write]
    split
    · rename_i hlt
      split
      · rename_i hv
        by_cases hb : b = a
        · subst hb
          simp [Memory.read, show ¬ c = b by omega, hrest b (by omega), hv]
        · simp [hb]
      · by_cases hb : b = a
        · simp [Memory.read, hb]
        · simp [Memory.read, hb, Ne.symm hb]
    · split
      · rename_i heq
        subst heq
        split
        · rename_i hv
          by_cases hb : b = a
          · subst hb; simp [hrest b (Nat.le_refl _), hv]
          · simp [Memory.read, hb, Ne.symm hb]
        · by_cases hb : b = a
          · simp [Memory.read, hb]
          · simp [Memory.read, hb, Ne.symm hb]
      · rename_i hnlt hne
        simp only [Memory.read, ih hq.2]
        by_cases hb : b = a
        · subst hb; simp [Ne.symm hne]
        · simp [hb]

theorem Memory.fill_succ (m : Memory) (n : Nat) (v : U16) :
    Memory.fill m (n + 1) v = Memory.write (Memory.fill m n v) n v := by
  simp [Memory.fill, List.range_succ]

/-- A fill keeps the canonical form. -/
theorem Memory.fill_wf {m : Memory} (n : Nat) (v : U16) (h : Memory.wf m) : Memory.wf (Memory.fill m n v) := by
  induction n with
  | zero => simpa [Memory.fill] using h
  | succ n ih => rw [Memory.fill_succ]; exact Memory.write_wf _ _ ih

theorem Memory.fill_within {m : Memory} {n size : Nat} (v : U16) (hn : n ≤ size) (h : Memory.within m size) :
    Memory.within (Memory.fill m n v) size := by
  induction n with
  | zero => simpa [Memory.fill] using h
  | succ n ih => rw [Memory.fill_succ]; exact Memory.write_within _ (by omega) (ih (by omega))

/-- A read after a fill of the first `n` words. -/
theorem Memory.read_fill {m : Memory} (n b : Nat) (v : U16) (h : Memory.wf m) :
    Memory.read (Memory.fill m n v) b = if b < n then v else Memory.read m b := by
  induction n with
  | zero => simp [Memory.fill]
  | succ n ih =>
    rw [Memory.fill_succ, Memory.read_write _ _ _ (Memory.fill_wf n v h), ih]
    by_cases hb : b = n
    · simp [hb]
    · by_cases hlt : b < n
      · simp [hb, hlt, show b < n + 1 by omega]
      · simp [hb, hlt, show ¬ b < n + 1 by omega]

end Sys2Proof.Machine
end

