-- ==== Sys2Proof/Laws/State.lean ====
section
/-! SUPPORT. What each shared update of State leaves in each field: one lemma per field per update, true by rfl, so that no
later proof unfolds a record update. -/

namespace Sys2Proof.Machine

variable (s : State)

/-! ### emit -/

@[simp] theorem emit_drvReady (es : List Event) : (emit es s).drvReady = s.drvReady := rfl
@[simp] theorem emit_width (es : List Event) : (emit es s).width = s.width := rfl
@[simp] theorem emit_height (es : List Event) : (emit es s).height = s.height := rfl
@[simp] theorem emit_geom (es : List Event) : (emit es s).geom = s.geom := rfl
@[simp] theorem emit_rot (es : List Event) : (emit es s).rot = s.rot := rfl
@[simp] theorem emit_xstart (es : List Event) : (emit es s).xstart = s.xstart := rfl
@[simp] theorem emit_ystart (es : List Event) : (emit es s).ystart = s.ystart := rfl
@[simp] theorem emit_rowbuf (es : List Event) : (emit es s).rowbuf = s.rowbuf := rfl
@[simp] theorem emit_tx (es : List Event) : (emit es s).tx = s.tx ++ es := rfl
@[simp] theorem emit_needles (es : List Event) : (emit es s).needles = s.needles := rfl
@[simp] theorem emit_count (es : List Event) : (emit es s).count = s.count := rfl
@[simp] theorem emit_spin (es : List Event) : (emit es s).spin = s.spin := rfl
@[simp] theorem emit_gameState (es : List Event) : (emit es s).gameState = s.gameState := rfl
@[simp] theorem emit_fcnt (es : List Event) : (emit es s).fcnt = s.fcnt := rfl
@[simp] theorem emit_fphase (es : List Event) : (emit es s).fphase = s.fphase := rfl
@[simp] theorem emit_btnPrev (es : List Event) : (emit es s).btnPrev = s.btnPrev := rfl
@[simp] theorem emit_resp (es : List Event) : (emit es s).resp = s.resp := rfl
@[simp] theorem emit_refused (es : List Event) : (emit es s).refused = s.refused := rfl
@[simp] theorem emit_refuseReason (es : List Event) : (emit es s).refuseReason = s.refuseReason := rfl
@[simp] theorem emit_pixbuf (es : List Event) : (emit es s).pixbuf = s.pixbuf := rfl
@[simp] theorem emit_moves (es : List Event) : (emit es s).moves = s.moves := rfl
@[simp] theorem emit_pc (es : List Event) : (emit es s).pc = s.pc := rfl

/-! ### setResp -/

@[simp] theorem setResp_drvReady (v : U16) : (setResp v s).drvReady = s.drvReady := rfl
@[simp] theorem setResp_width (v : U16) : (setResp v s).width = s.width := rfl
@[simp] theorem setResp_height (v : U16) : (setResp v s).height = s.height := rfl
@[simp] theorem setResp_geom (v : U16) : (setResp v s).geom = s.geom := rfl
@[simp] theorem setResp_rot (v : U16) : (setResp v s).rot = s.rot := rfl
@[simp] theorem setResp_xstart (v : U16) : (setResp v s).xstart = s.xstart := rfl
@[simp] theorem setResp_ystart (v : U16) : (setResp v s).ystart = s.ystart := rfl
@[simp] theorem setResp_rowbuf (v : U16) : (setResp v s).rowbuf = s.rowbuf := rfl
@[simp] theorem setResp_tx (v : U16) : (setResp v s).tx = s.tx := rfl
@[simp] theorem setResp_needles (v : U16) : (setResp v s).needles = s.needles := rfl
@[simp] theorem setResp_count (v : U16) : (setResp v s).count = s.count := rfl
@[simp] theorem setResp_spin (v : U16) : (setResp v s).spin = s.spin := rfl
@[simp] theorem setResp_gameState (v : U16) : (setResp v s).gameState = s.gameState := rfl
@[simp] theorem setResp_fcnt (v : U16) : (setResp v s).fcnt = s.fcnt := rfl
@[simp] theorem setResp_fphase (v : U16) : (setResp v s).fphase = s.fphase := rfl
@[simp] theorem setResp_btnPrev (v : U16) : (setResp v s).btnPrev = s.btnPrev := rfl
@[simp] theorem setResp_resp (v : U16) : (setResp v s).resp = v := rfl
@[simp] theorem setResp_refused (v : U16) : (setResp v s).refused = s.refused := rfl
@[simp] theorem setResp_refuseReason (v : U16) : (setResp v s).refuseReason = s.refuseReason := rfl
@[simp] theorem setResp_pixbuf (v : U16) : (setResp v s).pixbuf = s.pixbuf := rfl
@[simp] theorem setResp_moves (v : U16) : (setResp v s).moves = s.moves := rfl
@[simp] theorem setResp_pc (v : U16) : (setResp v s).pc = s.pc := rfl

/-! ### markRefused -/

@[simp] theorem markRefused_drvReady (r : RefuseReason) : (markRefused r s).drvReady = s.drvReady := rfl
@[simp] theorem markRefused_width (r : RefuseReason) : (markRefused r s).width = s.width := rfl
@[simp] theorem markRefused_height (r : RefuseReason) : (markRefused r s).height = s.height := rfl
@[simp] theorem markRefused_geom (r : RefuseReason) : (markRefused r s).geom = s.geom := rfl
@[simp] theorem markRefused_rot (r : RefuseReason) : (markRefused r s).rot = s.rot := rfl
@[simp] theorem markRefused_xstart (r : RefuseReason) : (markRefused r s).xstart = s.xstart := rfl
@[simp] theorem markRefused_ystart (r : RefuseReason) : (markRefused r s).ystart = s.ystart := rfl
@[simp] theorem markRefused_rowbuf (r : RefuseReason) : (markRefused r s).rowbuf = s.rowbuf := rfl
@[simp] theorem markRefused_tx (r : RefuseReason) : (markRefused r s).tx = s.tx := rfl
@[simp] theorem markRefused_needles (r : RefuseReason) : (markRefused r s).needles = s.needles := rfl
@[simp] theorem markRefused_count (r : RefuseReason) : (markRefused r s).count = s.count := rfl
@[simp] theorem markRefused_spin (r : RefuseReason) : (markRefused r s).spin = s.spin := rfl
@[simp] theorem markRefused_gameState (r : RefuseReason) : (markRefused r s).gameState = s.gameState := rfl
@[simp] theorem markRefused_fcnt (r : RefuseReason) : (markRefused r s).fcnt = s.fcnt := rfl
@[simp] theorem markRefused_fphase (r : RefuseReason) : (markRefused r s).fphase = s.fphase := rfl
@[simp] theorem markRefused_btnPrev (r : RefuseReason) : (markRefused r s).btnPrev = s.btnPrev := rfl
@[simp] theorem markRefused_resp (r : RefuseReason) : (markRefused r s).resp = s.resp := rfl
@[simp] theorem markRefused_refused (r : RefuseReason) : (markRefused r s).refused = true := rfl
@[simp] theorem markRefused_refuseReason (r : RefuseReason) : (markRefused r s).refuseReason = some r := rfl
@[simp] theorem markRefused_pixbuf (r : RefuseReason) : (markRefused r s).pixbuf = s.pixbuf := rfl
@[simp] theorem markRefused_moves (r : RefuseReason) : (markRefused r s).moves = s.moves := rfl
@[simp] theorem markRefused_pc (r : RefuseReason) : (markRefused r s).pc = s.pc := rfl

/-! ### sampleButton -/

@[simp] theorem sampleButton_drvReady (level : Bool) : (sampleButton level s).drvReady = s.drvReady := rfl
@[simp] theorem sampleButton_width (level : Bool) : (sampleButton level s).width = s.width := rfl
@[simp] theorem sampleButton_height (level : Bool) : (sampleButton level s).height = s.height := rfl
@[simp] theorem sampleButton_geom (level : Bool) : (sampleButton level s).geom = s.geom := rfl
@[simp] theorem sampleButton_rot (level : Bool) : (sampleButton level s).rot = s.rot := rfl
@[simp] theorem sampleButton_xstart (level : Bool) : (sampleButton level s).xstart = s.xstart := rfl
@[simp] theorem sampleButton_ystart (level : Bool) : (sampleButton level s).ystart = s.ystart := rfl
@[simp] theorem sampleButton_rowbuf (level : Bool) : (sampleButton level s).rowbuf = s.rowbuf := rfl
@[simp] theorem sampleButton_tx (level : Bool) : (sampleButton level s).tx = s.tx := rfl
@[simp] theorem sampleButton_needles (level : Bool) : (sampleButton level s).needles = s.needles := rfl
@[simp] theorem sampleButton_count (level : Bool) : (sampleButton level s).count = s.count := rfl
@[simp] theorem sampleButton_spin (level : Bool) : (sampleButton level s).spin = s.spin := rfl
@[simp] theorem sampleButton_gameState (level : Bool) : (sampleButton level s).gameState = s.gameState := rfl
@[simp] theorem sampleButton_fcnt (level : Bool) : (sampleButton level s).fcnt = s.fcnt := rfl
@[simp] theorem sampleButton_fphase (level : Bool) : (sampleButton level s).fphase = s.fphase := rfl
@[simp] theorem sampleButton_btnPrev (level : Bool) : (sampleButton level s).btnPrev = level := rfl
@[simp] theorem sampleButton_resp (level : Bool) : (sampleButton level s).resp = s.resp := rfl
@[simp] theorem sampleButton_refused (level : Bool) : (sampleButton level s).refused = s.refused := rfl
@[simp] theorem sampleButton_refuseReason (level : Bool) : (sampleButton level s).refuseReason = s.refuseReason := rfl
@[simp] theorem sampleButton_pixbuf (level : Bool) : (sampleButton level s).pixbuf = s.pixbuf := rfl
@[simp] theorem sampleButton_moves (level : Bool) : (sampleButton level s).moves = s.moves := rfl
@[simp] theorem sampleButton_pc (level : Bool) : (sampleButton level s).pc = s.pc := rfl

/-! ### flashToggle -/

@[simp] theorem flashToggle_drvReady : (flashToggle s).drvReady = s.drvReady := rfl
@[simp] theorem flashToggle_width : (flashToggle s).width = s.width := rfl
@[simp] theorem flashToggle_height : (flashToggle s).height = s.height := rfl
@[simp] theorem flashToggle_geom : (flashToggle s).geom = s.geom := rfl
@[simp] theorem flashToggle_rot : (flashToggle s).rot = s.rot := rfl
@[simp] theorem flashToggle_xstart : (flashToggle s).xstart = s.xstart := rfl
@[simp] theorem flashToggle_ystart : (flashToggle s).ystart = s.ystart := rfl
@[simp] theorem flashToggle_rowbuf : (flashToggle s).rowbuf = s.rowbuf := rfl
@[simp] theorem flashToggle_tx : (flashToggle s).tx = s.tx := rfl
@[simp] theorem flashToggle_needles : (flashToggle s).needles = s.needles := rfl
@[simp] theorem flashToggle_count : (flashToggle s).count = s.count := rfl
@[simp] theorem flashToggle_spin : (flashToggle s).spin = s.spin := rfl
@[simp] theorem flashToggle_gameState : (flashToggle s).gameState = s.gameState := rfl
@[simp] theorem flashToggle_fcnt : (flashToggle s).fcnt = s.fcnt + 1 := rfl
@[simp] theorem flashToggle_fphase : (flashToggle s).fphase = !s.fphase := rfl
@[simp] theorem flashToggle_btnPrev : (flashToggle s).btnPrev = s.btnPrev := rfl
@[simp] theorem flashToggle_resp : (flashToggle s).resp = s.resp := rfl
@[simp] theorem flashToggle_refused : (flashToggle s).refused = s.refused := rfl
@[simp] theorem flashToggle_refuseReason : (flashToggle s).refuseReason = s.refuseReason := rfl
@[simp] theorem flashToggle_pixbuf : (flashToggle s).pixbuf = s.pixbuf := rfl
@[simp] theorem flashToggle_moves : (flashToggle s).moves = s.moves := rfl
@[simp] theorem flashToggle_pc : (flashToggle s).pc = s.pc := rfl

/-! ### enterFlash -/

@[simp] theorem enterFlash_drvReady : (enterFlash s).drvReady = s.drvReady := rfl
@[simp] theorem enterFlash_width : (enterFlash s).width = s.width := rfl
@[simp] theorem enterFlash_height : (enterFlash s).height = s.height := rfl
@[simp] theorem enterFlash_geom : (enterFlash s).geom = s.geom := rfl
@[simp] theorem enterFlash_rot : (enterFlash s).rot = s.rot := rfl
@[simp] theorem enterFlash_xstart : (enterFlash s).xstart = s.xstart := rfl
@[simp] theorem enterFlash_ystart : (enterFlash s).ystart = s.ystart := rfl
@[simp] theorem enterFlash_rowbuf : (enterFlash s).rowbuf = s.rowbuf := rfl
@[simp] theorem enterFlash_tx : (enterFlash s).tx = s.tx := rfl
@[simp] theorem enterFlash_needles : (enterFlash s).needles = s.needles := rfl
@[simp] theorem enterFlash_count : (enterFlash s).count = s.count := rfl
@[simp] theorem enterFlash_spin : (enterFlash s).spin = s.spin := rfl
@[simp] theorem enterFlash_gameState : (enterFlash s).gameState = .flash := rfl
@[simp] theorem enterFlash_fcnt : (enterFlash s).fcnt = 0 := rfl
@[simp] theorem enterFlash_fphase : (enterFlash s).fphase = false := rfl
@[simp] theorem enterFlash_btnPrev : (enterFlash s).btnPrev = s.btnPrev := rfl
@[simp] theorem enterFlash_resp : (enterFlash s).resp = s.resp := rfl
@[simp] theorem enterFlash_refused : (enterFlash s).refused = s.refused := rfl
@[simp] theorem enterFlash_refuseReason : (enterFlash s).refuseReason = s.refuseReason := rfl
@[simp] theorem enterFlash_pixbuf : (enterFlash s).pixbuf = s.pixbuf := rfl
@[simp] theorem enterFlash_moves : (enterFlash s).moves = s.moves := rfl
@[simp] theorem enterFlash_pc : (enterFlash s).pc = s.pc := rfl

/-! ### exitFlash -/

@[simp] theorem exitFlash_drvReady : (exitFlash s).drvReady = s.drvReady := rfl
@[simp] theorem exitFlash_width : (exitFlash s).width = s.width := rfl
@[simp] theorem exitFlash_height : (exitFlash s).height = s.height := rfl
@[simp] theorem exitFlash_geom : (exitFlash s).geom = s.geom := rfl
@[simp] theorem exitFlash_rot : (exitFlash s).rot = s.rot := rfl
@[simp] theorem exitFlash_xstart : (exitFlash s).xstart = s.xstart := rfl
@[simp] theorem exitFlash_ystart : (exitFlash s).ystart = s.ystart := rfl
@[simp] theorem exitFlash_rowbuf : (exitFlash s).rowbuf = s.rowbuf := rfl
@[simp] theorem exitFlash_tx : (exitFlash s).tx = s.tx := rfl
@[simp] theorem exitFlash_needles : (exitFlash s).needles = s.needles := rfl
@[simp] theorem exitFlash_count : (exitFlash s).count = 0 := rfl
@[simp] theorem exitFlash_spin : (exitFlash s).spin = 0 := rfl
@[simp] theorem exitFlash_gameState : (exitFlash s).gameState = .play := rfl
@[simp] theorem exitFlash_fcnt : (exitFlash s).fcnt = 0 := rfl
@[simp] theorem exitFlash_fphase : (exitFlash s).fphase = false := rfl
@[simp] theorem exitFlash_btnPrev : (exitFlash s).btnPrev = false := rfl
@[simp] theorem exitFlash_resp : (exitFlash s).resp = s.resp := rfl
@[simp] theorem exitFlash_refused : (exitFlash s).refused = s.refused := rfl
@[simp] theorem exitFlash_refuseReason : (exitFlash s).refuseReason = s.refuseReason := rfl
@[simp] theorem exitFlash_pixbuf : (exitFlash s).pixbuf = s.pixbuf := rfl
@[simp] theorem exitFlash_moves : (exitFlash s).moves = s.moves := rfl
@[simp] theorem exitFlash_pc : (exitFlash s).pc = s.pc := rfl

/-! ### advanceSpin -/

@[simp] theorem advanceSpin_drvReady : (advanceSpin s).drvReady = s.drvReady := rfl
@[simp] theorem advanceSpin_width : (advanceSpin s).width = s.width := rfl
@[simp] theorem advanceSpin_height : (advanceSpin s).height = s.height := rfl
@[simp] theorem advanceSpin_geom : (advanceSpin s).geom = s.geom := rfl
@[simp] theorem advanceSpin_rot : (advanceSpin s).rot = s.rot := rfl
@[simp] theorem advanceSpin_xstart : (advanceSpin s).xstart = s.xstart := rfl
@[simp] theorem advanceSpin_ystart : (advanceSpin s).ystart = s.ystart := rfl
@[simp] theorem advanceSpin_rowbuf : (advanceSpin s).rowbuf = s.rowbuf := rfl
@[simp] theorem advanceSpin_tx : (advanceSpin s).tx = s.tx := rfl
@[simp] theorem advanceSpin_needles : (advanceSpin s).needles = s.needles := rfl
@[simp] theorem advanceSpin_count : (advanceSpin s).count = s.count := rfl
@[simp] theorem advanceSpin_spin : (advanceSpin s).spin = slotBits (wrap (slotInt s.spin + (spinStep : Int))) := rfl
@[simp] theorem advanceSpin_gameState : (advanceSpin s).gameState = s.gameState := rfl
@[simp] theorem advanceSpin_fcnt : (advanceSpin s).fcnt = s.fcnt := rfl
@[simp] theorem advanceSpin_fphase : (advanceSpin s).fphase = s.fphase := rfl
@[simp] theorem advanceSpin_btnPrev : (advanceSpin s).btnPrev = s.btnPrev := rfl
@[simp] theorem advanceSpin_resp : (advanceSpin s).resp = s.resp := rfl
@[simp] theorem advanceSpin_refused : (advanceSpin s).refused = s.refused := rfl
@[simp] theorem advanceSpin_refuseReason : (advanceSpin s).refuseReason = s.refuseReason := rfl
@[simp] theorem advanceSpin_pixbuf : (advanceSpin s).pixbuf = s.pixbuf := rfl
@[simp] theorem advanceSpin_moves : (advanceSpin s).moves = s.moves := rfl
@[simp] theorem advanceSpin_pc : (advanceSpin s).pc = s.pc := rfl

/-! ### appendNeedle -/

@[simp] theorem appendNeedle_drvReady (cand : Int) : (appendNeedle cand s).drvReady = s.drvReady := rfl
@[simp] theorem appendNeedle_width (cand : Int) : (appendNeedle cand s).width = s.width := rfl
@[simp] theorem appendNeedle_height (cand : Int) : (appendNeedle cand s).height = s.height := rfl
@[simp] theorem appendNeedle_geom (cand : Int) : (appendNeedle cand s).geom = s.geom := rfl
@[simp] theorem appendNeedle_rot (cand : Int) : (appendNeedle cand s).rot = s.rot := rfl
@[simp] theorem appendNeedle_xstart (cand : Int) : (appendNeedle cand s).xstart = s.xstart := rfl
@[simp] theorem appendNeedle_ystart (cand : Int) : (appendNeedle cand s).ystart = s.ystart := rfl
@[simp] theorem appendNeedle_rowbuf (cand : Int) : (appendNeedle cand s).rowbuf = s.rowbuf := rfl
@[simp] theorem appendNeedle_tx (cand : Int) : (appendNeedle cand s).tx = s.tx := rfl
@[simp] theorem appendNeedle_needles (cand : Int) : (appendNeedle cand s).needles =
    s.needles.setIfInBounds s.count.val (slotBits cand) := rfl
@[simp] theorem appendNeedle_count (cand : Int) : (appendNeedle cand s).count = s.count + 1 := rfl
@[simp] theorem appendNeedle_spin (cand : Int) : (appendNeedle cand s).spin = s.spin := rfl
@[simp] theorem appendNeedle_gameState (cand : Int) : (appendNeedle cand s).gameState = s.gameState := rfl
@[simp] theorem appendNeedle_fcnt (cand : Int) : (appendNeedle cand s).fcnt = s.fcnt := rfl
@[simp] theorem appendNeedle_fphase (cand : Int) : (appendNeedle cand s).fphase = s.fphase := rfl
@[simp] theorem appendNeedle_btnPrev (cand : Int) : (appendNeedle cand s).btnPrev = s.btnPrev := rfl
@[simp] theorem appendNeedle_resp (cand : Int) : (appendNeedle cand s).resp = s.resp := rfl
@[simp] theorem appendNeedle_refused (cand : Int) : (appendNeedle cand s).refused = s.refused := rfl
@[simp] theorem appendNeedle_refuseReason (cand : Int) : (appendNeedle cand s).refuseReason = s.refuseReason := rfl
@[simp] theorem appendNeedle_pixbuf (cand : Int) : (appendNeedle cand s).pixbuf = s.pixbuf := rfl
@[simp] theorem appendNeedle_moves (cand : Int) : (appendNeedle cand s).moves = s.moves := rfl
@[simp] theorem appendNeedle_pc (cand : Int) : (appendNeedle cand s).pc = s.pc := rfl

/-! ### setwin -/

@[simp] theorem setwin_drvReady (c : Cfg) (x0 y0 x1 y1 : U16) : (setwin c x0 y0 x1 y1 s).drvReady = s.drvReady := rfl
@[simp] theorem setwin_width (c : Cfg) (x0 y0 x1 y1 : U16) : (setwin c x0 y0 x1 y1 s).width = s.width := rfl
@[simp] theorem setwin_height (c : Cfg) (x0 y0 x1 y1 : U16) : (setwin c x0 y0 x1 y1 s).height = s.height := rfl
@[simp] theorem setwin_geom (c : Cfg) (x0 y0 x1 y1 : U16) : (setwin c x0 y0 x1 y1 s).geom = s.geom := rfl
@[simp] theorem setwin_rot (c : Cfg) (x0 y0 x1 y1 : U16) : (setwin c x0 y0 x1 y1 s).rot = s.rot := rfl
@[simp] theorem setwin_xstart (c : Cfg) (x0 y0 x1 y1 : U16) : (setwin c x0 y0 x1 y1 s).xstart = s.xstart := rfl
@[simp] theorem setwin_ystart (c : Cfg) (x0 y0 x1 y1 : U16) : (setwin c x0 y0 x1 y1 s).ystart = s.ystart := rfl
@[simp] theorem setwin_rowbuf (c : Cfg) (x0 y0 x1 y1 : U16) : (setwin c x0 y0 x1 y1 s).rowbuf = s.rowbuf := rfl
@[simp] theorem setwin_tx (c : Cfg) (x0 y0 x1 y1 : U16) : (setwin c x0 y0 x1 y1 s).tx =
    s.tx ++ setwinEvents c x0 y0 x1 y1 s := rfl
@[simp] theorem setwin_needles (c : Cfg) (x0 y0 x1 y1 : U16) : (setwin c x0 y0 x1 y1 s).needles = s.needles := rfl
@[simp] theorem setwin_count (c : Cfg) (x0 y0 x1 y1 : U16) : (setwin c x0 y0 x1 y1 s).count = s.count := rfl
@[simp] theorem setwin_spin (c : Cfg) (x0 y0 x1 y1 : U16) : (setwin c x0 y0 x1 y1 s).spin = s.spin := rfl
@[simp] theorem setwin_gameState (c : Cfg) (x0 y0 x1 y1 : U16) : (setwin c x0 y0 x1 y1 s).gameState = s.gameState := rfl
@[simp] theorem setwin_fcnt (c : Cfg) (x0 y0 x1 y1 : U16) : (setwin c x0 y0 x1 y1 s).fcnt = s.fcnt := rfl
@[simp] theorem setwin_fphase (c : Cfg) (x0 y0 x1 y1 : U16) : (setwin c x0 y0 x1 y1 s).fphase = s.fphase := rfl
@[simp] theorem setwin_btnPrev (c : Cfg) (x0 y0 x1 y1 : U16) : (setwin c x0 y0 x1 y1 s).btnPrev = s.btnPrev := rfl
@[simp] theorem setwin_resp (c : Cfg) (x0 y0 x1 y1 : U16) : (setwin c x0 y0 x1 y1 s).resp = s.resp := rfl
@[simp] theorem setwin_refused (c : Cfg) (x0 y0 x1 y1 : U16) : (setwin c x0 y0 x1 y1 s).refused = s.refused := rfl
@[simp] theorem setwin_refuseReason (c : Cfg) (x0 y0 x1 y1 : U16) : (setwin c x0 y0 x1 y1 s).refuseReason = s.refuseReason := rfl
@[simp] theorem setwin_pixbuf (c : Cfg) (x0 y0 x1 y1 : U16) : (setwin c x0 y0 x1 y1 s).pixbuf = s.pixbuf := rfl
@[simp] theorem setwin_moves (c : Cfg) (x0 y0 x1 y1 : U16) : (setwin c x0 y0 x1 y1 s).moves = s.moves := rfl
@[simp] theorem setwin_pc (c : Cfg) (x0 y0 x1 y1 : U16) : (setwin c x0 y0 x1 y1 s).pc = s.pc := rfl

/-! ### setrot -/

@[simp] theorem setrot_drvReady (c : Cfg) (m : Byte) : (setrot c m s).drvReady = s.drvReady := rfl
@[simp] theorem setrot_width (c : Cfg) (m : Byte) : (setrot c m s).width = s.width := rfl
@[simp] theorem setrot_height (c : Cfg) (m : Byte) : (setrot c m s).height = s.height := rfl
@[simp] theorem setrot_geom (c : Cfg) (m : Byte) : (setrot c m s).geom = s.geom := rfl
@[simp] theorem setrot_rot (c : Cfg) (m : Byte) : (setrot c m s).rot = rotOf m := rfl
@[simp] theorem setrot_xstart (c : Cfg) (m : Byte) : (setrot c m s).xstart =
    (c.offset s.geom s.width s.height (rotOf m)).1 := rfl
@[simp] theorem setrot_ystart (c : Cfg) (m : Byte) : (setrot c m s).ystart =
    (c.offset s.geom s.width s.height (rotOf m)).2 := rfl
@[simp] theorem setrot_rowbuf (c : Cfg) (m : Byte) : (setrot c m s).rowbuf = s.rowbuf := rfl
@[simp] theorem setrot_tx (c : Cfg) (m : Byte) : (setrot c m s).tx =
    s.tx ++ [.cmd (c.cmd .madctl), .data [c.madctlData (rotOf m)]] := rfl
@[simp] theorem setrot_needles (c : Cfg) (m : Byte) : (setrot c m s).needles = s.needles := rfl
@[simp] theorem setrot_count (c : Cfg) (m : Byte) : (setrot c m s).count = s.count := rfl
@[simp] theorem setrot_spin (c : Cfg) (m : Byte) : (setrot c m s).spin = s.spin := rfl
@[simp] theorem setrot_gameState (c : Cfg) (m : Byte) : (setrot c m s).gameState = s.gameState := rfl
@[simp] theorem setrot_fcnt (c : Cfg) (m : Byte) : (setrot c m s).fcnt = s.fcnt := rfl
@[simp] theorem setrot_fphase (c : Cfg) (m : Byte) : (setrot c m s).fphase = s.fphase := rfl
@[simp] theorem setrot_btnPrev (c : Cfg) (m : Byte) : (setrot c m s).btnPrev = s.btnPrev := rfl
@[simp] theorem setrot_resp (c : Cfg) (m : Byte) : (setrot c m s).resp = s.resp := rfl
@[simp] theorem setrot_refused (c : Cfg) (m : Byte) : (setrot c m s).refused = s.refused := rfl
@[simp] theorem setrot_refuseReason (c : Cfg) (m : Byte) : (setrot c m s).refuseReason = s.refuseReason := rfl
@[simp] theorem setrot_pixbuf (c : Cfg) (m : Byte) : (setrot c m s).pixbuf = s.pixbuf := rfl
@[simp] theorem setrot_moves (c : Cfg) (m : Byte) : (setrot c m s).moves = s.moves := rfl
@[simp] theorem setrot_pc (c : Cfg) (m : Byte) : (setrot c m s).pc = s.pc := rfl

/-! ### fillscr -/

@[simp] theorem fillscr_drvReady (c : Cfg) (color : U16) : (fillscr c color s).drvReady = s.drvReady := rfl
@[simp] theorem fillscr_width (c : Cfg) (color : U16) : (fillscr c color s).width = s.width := rfl
@[simp] theorem fillscr_height (c : Cfg) (color : U16) : (fillscr c color s).height = s.height := rfl
@[simp] theorem fillscr_geom (c : Cfg) (color : U16) : (fillscr c color s).geom = s.geom := rfl
@[simp] theorem fillscr_rot (c : Cfg) (color : U16) : (fillscr c color s).rot = s.rot := rfl
@[simp] theorem fillscr_xstart (c : Cfg) (color : U16) : (fillscr c color s).xstart = s.xstart := rfl
@[simp] theorem fillscr_ystart (c : Cfg) (color : U16) : (fillscr c color s).ystart = s.ystart := rfl
@[simp] theorem fillscr_rowbuf (c : Cfg) (color : U16) : (fillscr c color s).rowbuf =
    Memory.fill s.rowbuf s.width.toNat color := rfl
@[simp] theorem fillscr_tx (c : Cfg) (color : U16) : (fillscr c color s).tx =
    s.tx ++ setwinEvents c 0 0 (s.width - 1) (s.height - 1) s ++
      (List.replicate s.height.toNat (stream (Memory.read (Memory.fill s.rowbuf s.width.toNat color)) s.width.toNat)).flatten := rfl
@[simp] theorem fillscr_needles (c : Cfg) (color : U16) : (fillscr c color s).needles = s.needles := rfl
@[simp] theorem fillscr_count (c : Cfg) (color : U16) : (fillscr c color s).count = s.count := rfl
@[simp] theorem fillscr_spin (c : Cfg) (color : U16) : (fillscr c color s).spin = s.spin := rfl
@[simp] theorem fillscr_gameState (c : Cfg) (color : U16) : (fillscr c color s).gameState = s.gameState := rfl
@[simp] theorem fillscr_fcnt (c : Cfg) (color : U16) : (fillscr c color s).fcnt = s.fcnt := rfl
@[simp] theorem fillscr_fphase (c : Cfg) (color : U16) : (fillscr c color s).fphase = s.fphase := rfl
@[simp] theorem fillscr_btnPrev (c : Cfg) (color : U16) : (fillscr c color s).btnPrev = s.btnPrev := rfl
@[simp] theorem fillscr_resp (c : Cfg) (color : U16) : (fillscr c color s).resp = s.resp := rfl
@[simp] theorem fillscr_refused (c : Cfg) (color : U16) : (fillscr c color s).refused = s.refused := rfl
@[simp] theorem fillscr_refuseReason (c : Cfg) (color : U16) : (fillscr c color s).refuseReason = s.refuseReason := rfl
@[simp] theorem fillscr_pixbuf (c : Cfg) (color : U16) : (fillscr c color s).pixbuf = s.pixbuf := rfl
@[simp] theorem fillscr_moves (c : Cfg) (color : U16) : (fillscr c color s).moves = s.moves := rfl
@[simp] theorem fillscr_pc (c : Cfg) (color : U16) : (fillscr c color s).pc = s.pc := rfl

/-! ### retire -/

@[simp] theorem retire_drvReady : (retire s).drvReady = s.drvReady := rfl
@[simp] theorem retire_width : (retire s).width = s.width := rfl
@[simp] theorem retire_height : (retire s).height = s.height := rfl
@[simp] theorem retire_geom : (retire s).geom = s.geom := rfl
@[simp] theorem retire_rot : (retire s).rot = s.rot := rfl
@[simp] theorem retire_xstart : (retire s).xstart = s.xstart := rfl
@[simp] theorem retire_ystart : (retire s).ystart = s.ystart := rfl
@[simp] theorem retire_rowbuf : (retire s).rowbuf = s.rowbuf := rfl
@[simp] theorem retire_tx : (retire s).tx = s.tx := rfl
@[simp] theorem retire_needles : (retire s).needles = s.needles := rfl
@[simp] theorem retire_count : (retire s).count = s.count := rfl
@[simp] theorem retire_spin : (retire s).spin = s.spin := rfl
@[simp] theorem retire_gameState : (retire s).gameState = s.gameState := rfl
@[simp] theorem retire_fcnt : (retire s).fcnt = s.fcnt := rfl
@[simp] theorem retire_fphase : (retire s).fphase = s.fphase := rfl
@[simp] theorem retire_btnPrev : (retire s).btnPrev = s.btnPrev := rfl
@[simp] theorem retire_resp : (retire s).resp = s.resp := rfl
@[simp] theorem retire_refused : (retire s).refused = s.refused := rfl
@[simp] theorem retire_refuseReason : (retire s).refuseReason = s.refuseReason := rfl
@[simp] theorem retire_pixbuf : (retire s).pixbuf = s.pixbuf := rfl
@[simp] theorem retire_moves : (retire s).moves = s.moves.tail := rfl
@[simp] theorem retire_pc : (retire s).pc = s.pc + 1 := rfl

/-! ### withFetchWord -/

@[simp] theorem withFetchWord_drvReady (nbits w : Nat) : (s.withFetchWord nbits w).drvReady = s.drvReady := rfl
@[simp] theorem withFetchWord_width (nbits w : Nat) : (s.withFetchWord nbits w).width = s.width := rfl
@[simp] theorem withFetchWord_height (nbits w : Nat) : (s.withFetchWord nbits w).height = s.height := rfl
@[simp] theorem withFetchWord_geom (nbits w : Nat) : (s.withFetchWord nbits w).geom = s.geom := rfl
@[simp] theorem withFetchWord_rot (nbits w : Nat) : (s.withFetchWord nbits w).rot = s.rot := rfl
@[simp] theorem withFetchWord_xstart (nbits w : Nat) : (s.withFetchWord nbits w).xstart = s.xstart := rfl
@[simp] theorem withFetchWord_ystart (nbits w : Nat) : (s.withFetchWord nbits w).ystart = s.ystart := rfl
@[simp] theorem withFetchWord_rowbuf (nbits w : Nat) : (s.withFetchWord nbits w).rowbuf = s.rowbuf := rfl
@[simp] theorem withFetchWord_tx (nbits w : Nat) : (s.withFetchWord nbits w).tx = s.tx := rfl
@[simp] theorem withFetchWord_needles (nbits w : Nat) : (s.withFetchWord nbits w).needles = s.needles := rfl
@[simp] theorem withFetchWord_count (nbits w : Nat) : (s.withFetchWord nbits w).count = s.count := rfl
@[simp] theorem withFetchWord_spin (nbits w : Nat) : (s.withFetchWord nbits w).spin = s.spin := rfl
@[simp] theorem withFetchWord_gameState (nbits w : Nat) : (s.withFetchWord nbits w).gameState = s.gameState := rfl
@[simp] theorem withFetchWord_fcnt (nbits w : Nat) : (s.withFetchWord nbits w).fcnt = s.fcnt := rfl
@[simp] theorem withFetchWord_fphase (nbits w : Nat) : (s.withFetchWord nbits w).fphase = s.fphase := rfl
@[simp] theorem withFetchWord_btnPrev (nbits w : Nat) : (s.withFetchWord nbits w).btnPrev = s.btnPrev := rfl
@[simp] theorem withFetchWord_resp (nbits w : Nat) : (s.withFetchWord nbits w).resp = s.resp := rfl
@[simp] theorem withFetchWord_refused (nbits w : Nat) : (s.withFetchWord nbits w).refused = s.refused := rfl
@[simp] theorem withFetchWord_refuseReason (nbits w : Nat) : (s.withFetchWord nbits w).refuseReason = s.refuseReason := rfl
@[simp] theorem withFetchWord_pixbuf (nbits w : Nat) : (s.withFetchWord nbits w).pixbuf = s.pixbuf := rfl
@[simp] theorem withFetchWord_moves (nbits w : Nat) : (s.withFetchWord nbits w).moves = .request (tableWord nbits w) :: s.moves.tail := rfl
@[simp] theorem withFetchWord_pc (nbits w : Nat) : (s.withFetchWord nbits w).pc = s.pc := rfl

end Sys2Proof.Machine
end

