-- ==== Sys2Proof/Laws/Ops.lean ====
section
/-! SUPPORT. What each shared operation and each meaning can do, said once, for proofs to cite in place of unfolding it. -/

namespace Sys2Proof.Machine

/-! ### Refusal and readiness -/

theorem refuse_next {r : RefuseReason} {s t : State} : refuse r s = .next t ↔ t = markRefused r s := by
  simp [refuse, eq_comm]

theorem whenReady_ready {s : State} (body : State → Host.Outcome State Fault Refusal) (h : s.drvReady = true) :
    whenReady s body = body s := by simp [whenReady, h]

theorem whenReady_notReady {s : State} (body : State → Host.Outcome State Fault Refusal) (h : s.drvReady = false) :
    whenReady s body = .next (markRefused .notReady s) := by simp [whenReady, h, refuse]

/-- A guarded operation runs its body, or is refused with NotReady. -/
theorem whenReady_cases {s t : State} {body : State → Host.Outcome State Fault Refusal}
    (h : whenReady s body = .next t) :
    (s.drvReady = true ∧ body s = .next t) ∨ (s.drvReady = false ∧ t = markRefused .notReady s) := by
  cases hr : s.drvReady with
  | true => exact .inl ⟨rfl, by simpa [whenReady, hr] using h⟩
  | false => exact .inr ⟨rfl, by simpa [whenReady, hr, refuse, eq_comm] using h⟩

/-! ### Slots and the needle file -/

theorem wrap_eq (i : Int) : wrap i = i % 24 := rfl

theorem wrapDiff_eq (a b : Int) : wrapDiff a b = if (a - b) % 24 > 12 then (a - b) % 24 - 24 else (a - b) % 24 := rfl

theorem collidesWith_iff (c : Int) (n : BitVec 5) :
    collidesWith c n = true ↔ (wrapDiff c (slotInt n)).natAbs < 1 := by
  simp [collidesWith, collisionSteps]

theorem collision_iff (c : Int) (s : State) : collision c s = true ↔ ∃ n ∈ s.valid, collidesWith c n = true := by
  simp [collision]

theorem valid_length (s : State) : s.valid.length = s.count.val := by
  have := s.count.isLt
  simp only [State.valid, List.length_take, Vector.length_toList]
  omega

/-- The valid entries depend on the needle file and COUNT alone. -/
theorem valid_congr {s t : State} (hn : t.needles = s.needles) (hc : t.count = s.count) : t.valid = s.valid := by
  simp [State.valid, hn, hc]

theorem valid_of_count_zero {s : State} (h : s.count = 0) : s.valid = [] := by simp [State.valid, h]

/-- An append puts the new entry last and moves no other (10_state.md R20). -/
theorem appendNeedle_valid {s : State} (cand : Int) (h : s.count.val < 30) :
    (appendNeedle cand s).valid = s.valid ++ [slotBits cand] := by
  have hc : (s.count + 1).val = s.count.val + 1 := by
    rw [Fin.val_add]; simp; omega
  simp only [State.valid, appendNeedle_needles, appendNeedle_count, hc, Vector.toList_setIfInBounds]
  refine List.ext_getElem (by simp; omega) fun i h1 h2 => ?_
  simp only [List.length_take, List.length_set, Vector.length_toList] at h1
  simp only [List.getElem_take, List.getElem_set, List.getElem_append, List.length_take, Vector.length_toList,
    List.getElem_singleton]
  split
  · rename_i hi; subst hi; simp
  · rw [dif_pos (by omega)]

/-- `place` enters FLASH with nothing stored, or appends the candidate (41_engine_ops.md R125). -/
theorem place_cases (s : State) :
    ((collision (candidate s) s = true ∨ s.count.val = 30) ∧ place s = enterFlash s)
      ∨ ((collision (candidate s) s = false ∧ s.count.val < 30) ∧ place s = appendNeedle (candidate s) s) := by
  have := s.count.isLt
  by_cases hf : s.count.val = 30
  · exact .inl ⟨.inr hf, by simp [place, needleCapacity, hf]⟩
  · cases hc : collision (candidate s) s with
    | true => exact .inl ⟨.inl rfl, by simp [place, hc]⟩
    | false => exact .inr ⟨⟨rfl, by omega⟩, by simp [place, needleCapacity, hc, hf]⟩

/-! ### Streaming -/

theorem streamFrom_end (src : Nat → U16) {count i : Nat} (fuel : Nat) (h : count ≤ i) :
    streamFrom src count fuel i = [] := by
  cases fuel with
  | zero => rfl
  | succ n => simp [streamFrom, show ¬ i < count by omega]

theorem streamFrom_burst (src : Nat → U16) {count i : Nat} (fuel : Nat) (h : i < count) :
    streamFrom src count (fuel + 1) i =
      .data (burstBytes src i (min 60 (count - i))) :: streamFrom src count fuel (i + min 60 (count - i)) := by
  simp [streamFrom, h, burstMaxPixels]

theorem burstBytes_length (src : Nat → U16) (i n : Nat) : (burstBytes src i n).length = 2 * n := by
  induction n with
  | zero => rfl
  | succ n ih =>
    simp only [burstBytes, List.range_succ, List.flatMap_append, List.length_append] at ih ⊢
    simp [be16]; omega

/-! ### What each meaning can do -/

theorem execInit_cases {width height : U16} {rotation : Byte} {s t : State}
    (h : execInit width height rotation s = .next t) :
    (geometryUnsupported Config.current width height = true ∧ t = markRefused .geometryUnsupported s)
      ∨ (geometryUnsupported Config.current width height = false ∧
          ∃ u, u = setrot Config.current rotation (emit (bringUpEvents Config.current)
              { s with width := width, height := height, geom := Config.current.geomClass width height }) ∧
            t = { emit [.bl true] (fillscr Config.current Config.current.bgColor u) with drvReady := true }) := by
  cases hg : geometryUnsupported Config.current width height with
  | true => exact .inl ⟨rfl, by simpa [execInit, initOn, hg, refuse, eq_comm] using h⟩
  | false => exact .inr ⟨rfl, _, rfl, by simpa [execInit, initOn, hg, eq_comm] using h⟩

theorem execSetrot_cases {m : Byte} {s t : State} (h : execSetrot m s = .next t) :
    (s.drvReady = true ∧ t = setrot Config.current m s) ∨ (s.drvReady = false ∧ t = markRefused .notReady s) := by
  unfold execSetrot setrotOn at h
  exact (whenReady_cases h).imp (fun h => ⟨h.1, by simpa [eq_comm] using h.2⟩) id

theorem execSetwin_cases {x0 y0 x1 y1 : U16} {s t : State} (h : execSetwin x0 y0 x1 y1 s = .next t) :
    (s.drvReady = true ∧ t = setwin Config.current x0 y0 x1 y1 s)
      ∨ (s.drvReady = false ∧ t = markRefused .notReady s) := by
  unfold execSetwin setwinOn at h
  exact (whenReady_cases h).imp (fun h => ⟨h.1, by simpa [eq_comm] using h.2⟩) id

theorem execFillwin_cases {x0 y0 x1 y1 : U16} {buffer count : Nat} {s t : State}
    (h : execFillwin x0 y0 x1 y1 buffer count s = .next t) :
    (s.drvReady = true ∧ Config.current.pixbufSize < buffer + count ∧ t = markRefused .pixbufRange s)
      ∨ (s.drvReady = true ∧ buffer + count ≤ Config.current.pixbufSize ∧
          t = emit (stream (fun i => Memory.read s.pixbuf (buffer + i)) count)
            (setwin Config.current x0 y0 x1 y1 s))
      ∨ (s.drvReady = false ∧ t = markRefused .notReady s) := by
  unfold execFillwin fillwinOn at h
  rcases whenReady_cases h with ⟨hr, h⟩ | h
  · split at h
    · exact .inl ⟨hr, ‹_›, refuse_next.1 h⟩
    · exact .inr (.inl ⟨hr, by omega, by simpa [eq_comm] using h⟩)
  · exact .inr (.inr h)

theorem execFillscr_cases {color : U16} {s t : State} (h : execFillscr color s = .next t) :
    (s.drvReady = true ∧ s.width.toNat ≤ Config.current.ctrlCols ∧ t = fillscr Config.current color s)
      ∨ (s.drvReady = false ∧ t = markRefused .notReady s) := by
  unfold execFillscr fillscrOn at h
  rcases whenReady_cases h with ⟨hr, h⟩ | h
  · split at h
    · cases h
    · exact .inl ⟨hr, by omega, by simpa [eq_comm] using h⟩
  · exact .inr h

theorem execDrawpix_cases {x y color : U16} {s t : State} (h : execDrawpix x y color s = .next t) :
    (s.drvReady = true ∧ (x ≥ s.width ∨ y ≥ s.height) ∧ t = s)
      ∨ (s.drvReady = true ∧ ¬ (x ≥ s.width ∨ y ≥ s.height) ∧
          t = emit [.data (be16 color)] (setwin Config.current x y x y s))
      ∨ (s.drvReady = false ∧ t = markRefused .notReady s) := by
  unfold execDrawpix drawpixOn at h
  rcases whenReady_cases h with ⟨hr, h⟩ | h
  · split at h
    · exact .inl ⟨hr, ‹_›, by simpa [eq_comm] using h⟩
    · exact .inr (.inl ⟨hr, ‹_›, by simpa [eq_comm] using h⟩)
  · exact .inr (.inr h)

theorem execFrame_cases {level : Bool} {s t : State} (h : execFrame level s = .next t) :
    (s.gameState = .play ∧ t = framePlay (risingEdge s.btnPrev level) (sampleButton level s))
      ∨ (s.gameState = .flash ∧ t = frameFlash (sampleButton level s)) := by
  cases hg : s.gameState with
  | play => exact .inl ⟨rfl, by simpa [execFrame, hg, eq_comm] using h⟩
  | flash => exact .inr ⟨rfl, by simpa [execFrame, hg, eq_comm] using h⟩

theorem execRpos_cases {k : Nat} {s t : State} (h : execRpos k s = .next t) :
    (s.valid[k]? = none ∧ t = markRefused .needleIndex s)
      ∨ ∃ n, s.valid[k]? = some n ∧ t = setResp (zext16 (wrap (slotInt n + slotInt s.spin))) s := by
  cases hk : s.valid[k]? with
  | none => exact .inl ⟨rfl, by simpa [execRpos, hk, refuse, eq_comm] using h⟩
  | some n => exact .inr ⟨n, rfl, by simpa [execRpos, hk, eq_comm] using h⟩

/-! ### One step -/

theorem afterRequest_next {o : Host.Outcome State Fault Refusal} {t : State} (h : afterRequest o = .next t) :
    ∃ u, o = .next u ∧ t = retire u := by
  cases o with
  | next u => exact ⟨u, rfl, by simpa [afterRequest, eq_comm] using h⟩
  | fault f => cases h
  | refused r => cases h

/-- A decoded request runs, or a reserved one is refused. -/
theorem runDecoded_cases {w : ReqWord} {s t : State} (h : runDecoded (decode w) s = .next t) :
    (∃ i, decode w = .ok i ∧ exec i s = .next t)
      ∨ (∃ op, decode w = .error (.reservedOpcode op)) ∧ t = markRefused .reservedOpcode s := by
  cases hd : decode w with
  | ok i => exact .inl ⟨i, rfl, by simpa [runDecoded, hd] using h⟩
  | error e =>
    cases e with
    | reservedOpcode op => exact .inr ⟨⟨op, rfl⟩, refuse_next.1 (by simpa [runDecoded, hd] using h)⟩

/-- Everything one step can do: wait, run a request and retire it, or take a host write. -/
theorem step_cases {s t : State} (h : step s = .next t) :
    (s.moves = [] ∧ t = s)
      ∨ (∃ w rest u, s.moves = .request w :: rest ∧ runDecoded (decode w) s = .next u ∧ t = retire u)
      ∨ (∃ a v rest, s.moves = .setPixel a v :: rest ∧ a < Config.current.pixbufSize ∧
          t = { s with pixbuf := Memory.write s.pixbuf a v, moves := rest }) := by
  match hm : s.moves with
  | [] => exact .inl ⟨rfl, by simpa [step, hm, eq_comm] using h⟩
  | .request w :: rest =>
    obtain ⟨u, hu, ht⟩ := afterRequest_next (by simpa [step, hm] using h)
    exact .inr (.inl ⟨w, rest, u, rfl, hu, ht⟩)
  | .setPixel a v :: rest =>
    simp only [step, hm, hostSetPixel] at h
    split at h
    · exact .inr (.inr ⟨a, v, rest, rfl, ‹_›, by simpa [hm, eq_comm] using h⟩)
    · cases h

end Sys2Proof.Machine
end

