-- ==== Sys2Proof/Laws/PerInstr.lean ====
section
/-! SUPPORT. Per-instruction families over the syntax: each operation's word carries the operation's own code in OP, and that
code is one the table assigns (30_encoding.md R61). -/

namespace Sys2Proof.Laws.EncodesOpcode

/-- OP of the operation's word is its code, an assigned one. -/
def Statement (i : Instr) : Prop := fieldOp (encode i) = opcode i ∧ opcode i ∈ assignedOps

theorem init (width height : U16) (rotation : Byte) : Statement (.init width height rotation) :=
  ⟨fieldOp_packFields .., by simp [opcode, assignedOps]⟩
theorem setrot (m : Byte) : Statement (.setrot m) :=
  ⟨fieldOp_packFields .., by simp [opcode, assignedOps]⟩
theorem setwin (x0 y0 x1 y1 : U16) : Statement (.setwin x0 y0 x1 y1) :=
  ⟨fieldOp_packFields .., by simp [opcode, assignedOps]⟩
theorem fillwin (x0 y0 x1 y1 : U16) (buffer count : Nat) : Statement (.fillwin x0 y0 x1 y1 buffer count) :=
  ⟨fieldOp_packFields .., by simp [opcode, assignedOps]⟩
theorem fillscr (color : U16) : Statement (.fillscr color) :=
  ⟨fieldOp_packFields .., by simp [opcode, assignedOps]⟩
theorem drawpix (x y color : U16) : Statement (.drawpix x y color) :=
  ⟨fieldOp_packFields .., by simp [opcode, assignedOps]⟩
theorem pack565 (r g b : Byte) : Statement (.pack565 r g b) :=
  ⟨fieldOp_packFields .., by simp [opcode, assignedOps]⟩
theorem enginit : Statement .enginit :=
  ⟨fieldOp_packFields .., by simp [opcode, assignedOps]⟩
theorem frame (level : Bool) : Statement (.frame level) :=
  ⟨fieldOp_packFields .., by simp [opcode, assignedOps]⟩
theorem wrap (i : Int) : Statement (.wrap i) :=
  ⟨fieldOp_packFields .., by simp [opcode, assignedOps]⟩
theorem wrapdiff (a b : Int) : Statement (.wrapdiff a b) :=
  ⟨fieldOp_packFields .., by simp [opcode, assignedOps]⟩
theorem collide (c : Int) : Statement (.collide c) :=
  ⟨fieldOp_packFields .., by simp [opcode, assignedOps]⟩
theorem rpos (k : Nat) : Statement (.rpos k) :=
  ⟨fieldOp_packFields .., by simp [opcode, assignedOps]⟩

end Sys2Proof.Laws.EncodesOpcode
end

