-- ==== Sys2Proof/Machine/Assembly.lean ====
section
/-! DEFINITION. The assembly syntax of requests (30_encoding.md R64): the mnemonic, then the operands in the order of the
document's argument lists, decimal, `@` before a PIXBUF index. -/

namespace Sys2Proof.Machine

/-- The operands of a line, separated by commas (30_encoding.md R64). -/
def asmOperands : List String → String
  | [] => ""
  | [x] => x
  | x :: rest => x ++ ", " ++ asmOperands rest

/-- A line of assembly. -/
def asmLine (mnemonic : String) : List String → String
  | [] => mnemonic
  | x :: rest => mnemonic ++ " " ++ asmOperands (x :: rest)

/-- A request as a line of assembly (30_encoding.md R64). -/
def assembly : Instr → String
  | .init width height rotation => asmLine "INIT" [toString width.toNat, toString height.toNat, toString rotation.toNat]
  | .setrot m => asmLine "SETROT" [toString m.toNat]
  | .setwin x0 y0 x1 y1 =>
      asmLine "SETWIN" [toString x0.toNat, toString y0.toNat, toString x1.toNat, toString y1.toNat]
  | .fillwin x0 y0 x1 y1 buffer count =>
      asmLine "FILLWIN" [toString x0.toNat, toString y0.toNat, toString x1.toNat, toString y1.toNat,
        "@" ++ toString buffer, toString count]
  | .fillscr color => asmLine "FILLSCR" [toString color.toNat]
  | .drawpix x y color => asmLine "DRAWPIX" [toString x.toNat, toString y.toNat, toString color.toNat]
  | .pack565 r g b => asmLine "PACK565" [toString r.toNat, toString g.toNat, toString b.toNat]
  | .enginit => asmLine "ENGINIT" []
  | .frame level => asmLine "FRAME" [toString level.toNat]
  | .wrap i => asmLine "WRAP" [toString i]
  | .wrapdiff a b => asmLine "WRAPDIFF" [toString a, toString b]
  | .collide c => asmLine "COLLIDE" [toString c]
  | .rpos k => asmLine "RPOS" [toString k]

end Sys2Proof.Machine
end

