-- ==== Sys2Proof/Machine/Defaults.lean ====
section
/-! DEFINITION. The simulation defaults of 30_encoding.md R75 and 40_driver_ops.md R109, which the spec marks as general
knowledge (93_implementation_defined.md GK1 to GK5, GK8). No operation and no step reads them: they run the spec's worked
examples (95_test_vectors.md). PRESUMED, log entry 20. -/

namespace Sys2Proof.Machine

/-- The default command bytes (30_encoding.md R75). -/
def defaultCmd : Command → Byte
  | .swreset => 0x01
  | .noron => 0x13
  | .invon => 0x21
  | .dispon => 0x29
  | .caset => 0x2A
  | .raset => 0x2B
  | .ramwr => 0x2C
  | .madctl => 0x36
  | .colmod => 0x3A

/-- MADCTL_DATA[0..3] (30_encoding.md R75). -/
def defaultMadctl (r : BitVec 2) : Byte :=
  if r = 0 then 0xC0 else if r = 1 then 0xA0 else if r = 2 then 0x00 else 0x60

/-- The default class of a panel (40_driver_ops.md R109). -/
def defaultClass (width height : U16) : GeomClass :=
  if width = 240 ∧ height = 240 then .squareRj
  else if width = 135 ∧ height = 240 then .centeredOdd
  else .centeredEven

/-- colstart, colstart2, rowstart, rowstart2 of a class (40_driver_ops.md R109). -/
def defaultStarts (g : GeomClass) (width height : Nat) : Nat × Nat × Nat × Nat :=
  match g with
  | .squareRj => (240 - width, 0, 320 - height, 0)
  | .centeredOdd => ((240 - width + 1) / 2, (240 - width) / 2, (320 - height) / 2, (320 - height) / 2)
  | .centeredEven => ((240 - width) / 2, (240 - width) / 2, (320 - height) / 2, (320 - height) / 2)

/-- The default offset pair of a rotation (40_driver_ops.md R109). -/
def defaultOffset (g : GeomClass) (width height : U16) (r : BitVec 2) : U16 × U16 :=
  let (col, col2, row, row2) := defaultStarts g width.toNat height.toNat
  let w (n : Nat) : U16 := BitVec.ofNat 16 n
  if r = 0 then (w col, w row)
  else if r = 1 then (w row, w col2)
  else if r = 2 then (w col2, w row2)
  else (w row2, w col)

/-- The default configuration, with the size of the pixel buffer given, since it has no default (30_encoding.md R75,
40_driver_ops.md R109). -/
def defaultCfg (pixbufSize : Nat) : Cfg where
  openCmd := defaultCmd
  colmod16bit := 0x55
  madctlData := defaultMadctl
  initMadctlData := 0x00
  initCaset := #v[0x00, 0x00, 0x00, 0xF0]
  initRaset := #v[0x00, 0x00, 0x01, 0x40]
  tInvon := 10
  tNoron := 10
  tDispon := 10
  bgColor := 0x0000
  extraCols := 0
  openGeomClass := defaultClass
  openOffset := defaultOffset
  pixbufSize := pixbufSize
  csActive := .low
  dcCommand := .low
  rstActive := .low
  blActive := .high

end Sys2Proof.Machine
end

