-- ==== Sys2Proof/Tests/Slice0.lean ====
section
/-! SUPPORT. Tests of the model, on the spec's worked examples (95_test_vectors.md), and a witness for the hypotheses of each
statement. Expected values are the spec's, cited by vector. -/

namespace Sys2Proof.Tests

open Sys2Proof Sys2Proof.Machine Sys2Proof.Safety

/-! ### WellFormed: each check refuses an ill-formed term (30_encoding.md R62) -/

theorem test_wellFormed_buffer : Instr.wellFormed (.fillwin 0 0 0 0 (2 ^ 32) 0) = false := by decide
theorem test_wellFormed_count : Instr.wellFormed (.fillwin 0 0 0 0 0 (2 ^ 32)) = false := by decide
theorem test_wellFormed_wrap : Instr.wellFormed (.wrap 32768) = false := by decide
theorem test_wellFormed_wrap_low : Instr.wellFormed (.wrap (-32769)) = false := by decide
theorem test_wellFormed_wrapdiff_a : Instr.wellFormed (.wrapdiff 32768 0) = false := by decide
theorem test_wellFormed_wrapdiff_b : Instr.wellFormed (.wrapdiff 0 (-32769)) = false := by decide
theorem test_wellFormed_collide : Instr.wellFormed (.collide 32768) = false := by decide
theorem test_wellFormed_rpos : Instr.wellFormed (.rpos 32) = false := by decide

/-! ### Decode: words of 95_test_vectors.md section 2.1, one for each constructor -/

theorem test_decode_init : decode 0x00000000000000000000000000F000F001 = .ok (.init 240 240 0) := by rfl
theorem test_decode_setrot : decode 0x0000000000000000000000000000000302 = .ok (.setrot 3) := by rfl
theorem test_decode_setwin : decode 0x0000000000000000001D00130014000A03 = .ok (.setwin 10 20 19 29) := by rfl
theorem test_decode_fillwin : decode 0x0000010000000009000800070006000504 = .ok (.fillwin 5 6 7 8 0x100 9) := by rfl
theorem test_decode_fillscr : decode 0x00000000000000000000F8000000000005 = .ok (.fillscr 0xF800) := by rfl
theorem test_decode_drawpix : decode 0x00000000000000000000F80000EF00EF06 = .ok (.drawpix 239 239 0xF800) := by rfl
theorem test_decode_pack565 : decode 0x0000000000000000000000080004000807 = .ok (.pack565 8 4 8) := by rfl
theorem test_decode_enginit : decode 0x0000000600000005000400030002000110 = .ok .enginit := by rfl
theorem test_decode_frame : decode 0x0000000000000000000000000000000111 = .ok (.frame true) := by rfl
theorem test_decode_frame_bit0 : decode 0x0000000000000000000000000000FFFE11 = .ok (.frame false) := by rfl
theorem test_decode_wrap : decode 0x0000000000000000000000000000FFFF12 = .ok (.wrap (-1)) := by rfl
theorem test_decode_wrapdiff : decode 0x000000000000000000000000000D000013 = .ok (.wrapdiff 0 13) := by rfl
theorem test_decode_collide : decode 0x0000000000000000000000000000FFF514 = .ok (.collide (-11)) := by rfl
theorem test_decode_rpos : decode 0x0000000000000000000000000000000115 = .ok (.rpos 1) := by rfl
theorem test_decode_rpos_u5 : decode 0x0000000000000000000000000000002015 = .ok (.rpos 0) := by rfl
theorem test_decode_zero : decode 0 = .error (.reservedOpcode 0) := by rfl
theorem test_decode_ff : decode 0x00000006000000050004000300020001FF = .error (.reservedOpcode 0xFF) := by rfl
theorem test_encode_fillwin : encode (.fillwin 5 6 7 8 0x100 9) = 0x0000010000000009000800070006000504 := by decide
theorem test_encode_collide : encode (.collide (-11)) = 0x0000000000000000000000000000FFF514 := by decide
theorem test_decodeTableWord : decodeTableWord 136 0x12 = some (.wrap 0) := by rfl

/-- 30_encoding.md R64. -/
theorem test_assembly : assembly (.fillwin 100 100 160 100 16 61) = "FILLWIN 100, 100, 160, 100, @16, 61" := by decide
theorem test_assembly_wrap : assembly (.wrap (-1)) = "WRAP -1" := by decide

/-! ### Small states -/

/-- The defaults with the 4096 words of 95_test_vectors.md. -/
def cfg : Cfg := defaultCfg 4096

/-- After `INIT 240, 240, 0`, with the trace left out. -/
def panel : State :=
  { State.reset with drvReady := true, width := 240, height := 240, geom := .squareRj, rot := 0, ystart := 80 }

/-- After `INIT 240, 240, 0` of a panel cut to one by two pixels, for traces a test can hold. -/
def tiny : State := { panel with width := 1, height := 2 }

/-- An ENG state with these needles stored (95_test_vectors.md, "An ENG state is written"). -/
def game (g : GameState) (ns : List (BitVec 5)) (spin : BitVec 5) (fcnt : BitVec 3) (fphase btn : Bool) : State :=
  { State.reset with
    gameState := g, count := Fin.ofNat 31 ns.length, needles := Vector.ofFn fun k => ns.getD k.val 0,
    spin := spin, fcnt := fcnt, fphase := fphase, btnPrev := btn }

/-- What a test reads of an outcome; `none` where it is no next state. -/
def seen {α : Type} (f : State → α) : Host.Outcome State Fault Refusal → Option α
  | .next t => some (f t)
  | .fault _ => none
  | .refused _ => none

/-- The ENG part of a state as 95_test_vectors.md writes it. -/
def engView (s : State) : GameState × List (BitVec 5) × BitVec 5 × BitVec 3 × Bool × Bool :=
  (s.gameState, s.valid, s.spin, s.fcnt, s.fphase, s.btnPrev)

/-! ### DRV (95_test_vectors.md 2.2 to 2.8, 2.14) -/

/-- V1. -/
theorem test_setwin : seen State.tx (setwinOn cfg 10 20 19 29 panel) =
    some [.cmd 0x2A, .data [0x00, 0x0A, 0x00, 0x13], .cmd 0x2B, .data [0x00, 0x64, 0x00, 0x6D], .cmd 0x2C] := by decide
/-- V4: the sum wraps modulo 2^16. -/
theorem test_setwin_wraps : seen State.tx (setwinOn cfg 0xFFFF 0 0xFFFF 0 { panel with xstart := 80, ystart := 0 }) =
    some [.cmd 0x2A, .data [0x00, 0x4F, 0x00, 0x4F], .cmd 0x2B, .data [0x00, 0x00, 0x00, 0x00], .cmd 0x2C] := by decide
/-- V5a: the last in-panel pixel. -/
theorem test_drawpix : seen State.tx (drawpixOn cfg 239 239 0xF800 panel) =
    some [.cmd 0x2A, .data [0x00, 0xEF, 0x00, 0xEF], .cmd 0x2B, .data [0x01, 0x3F, 0x01, 0x3F], .cmd 0x2C,
      .data [0xF8, 0x00]] := by decide
/-- V5c: x = WIDTH is dropped, and REFUSED stays 0. -/
theorem test_drawpix_off : seen observe (drawpixOn cfg 240 0 0xF800 panel) = some (observe panel) := by decide
/-- V8: word P first, high byte first. -/
theorem test_fillwin : seen State.tx (fillwinOn cfg 10 20 12 21 0 6 { panel with pixbuf :=
      [(0, 0x0001), (1, 0x0203), (2, 0x0405), (3, 0x0607), (4, 0x0809), (5, 0x0A0B)] }) =
    some [.cmd 0x2A, .data [0x00, 0x0A, 0x00, 0x0C], .cmd 0x2B, .data [0x00, 0x64, 0x00, 0x65], .cmd 0x2C,
      .data [0x00, 0x01, 0x02, 0x03, 0x04, 0x05, 0x06, 0x07, 0x08, 0x09, 0x0A, 0x0B]] := by decide
/-- F6: one word past the end refuses with no event. -/
theorem test_fillwin_range : seen (fun t => (t.tx, t.refused, t.refuseReason)) (fillwinOn cfg 0 0 0 0 4096 1 panel) =
    some ([], true, some .pixbufRange) := by decide
/-- V9: 61 pixels are bursts of 120 and 2 bytes. -/
theorem test_stream_bursts :
    (stream (fun _ => 0x1234) 61).map (fun e => (dataBytes [e]).length) = [120, 2] := by decide
/-- R106 on a panel of one by two pixels: one stream a row. -/
theorem test_fillscr : seen State.tx (fillscrOn cfg 0xF800 tiny) =
    some [.cmd 0x2A, .data [0x00, 0x00, 0x00, 0x00], .cmd 0x2B, .data [0x00, 0x50, 0x00, 0x51], .cmd 0x2C,
      .data [0xF8, 0x00], .data [0xF8, 0x00]] := by decide
theorem test_fillscr_rowbuf : seen State.rowbuf (fillscrOn cfg 0xF800 tiny) = some [(0, 0xF800)] := by decide
/-- V12: m = 6 acts as 2. -/
theorem test_setrot : seen (fun t => (t.tx, t.rot, t.xstart, t.ystart)) (setrotOn cfg 6 panel) =
    some ([.cmd 0x36, .data [0x00]], 2, 0, 0) := by decide
theorem test_setrot_offsets : seen (fun t => (t.xstart, t.ystart)) (setrotOn cfg 1 panel) = some (80, 0) := by decide
/-- V16: `INIT 1, 1, 0`, all 29 events. -/
theorem test_init_trace : seen State.tx (initOn cfg 1 1 0 State.reset) =
    some [.rst true, .delay 10, .rst false, .delay 10, .cmd 0x01, .delay 15, .cmd 0x3A, .data [0x55],
      .cmd 0x36, .data [0x00], .cmd 0x2A, .data [0x00, 0x00, 0x00, 0xF0], .cmd 0x2B, .data [0x00, 0x00, 0x01, 0x40],
      .cmd 0x21, .delay 10, .cmd 0x13, .delay 10, .cmd 0x29, .delay 10,
      .cmd 0x36, .data [0xC0], .cmd 0x2A, .data [0x00, 0x77, 0x00, 0x77], .cmd 0x2B, .data [0x00, 0x9F, 0x00, 0x9F],
      .cmd 0x2C, .data [0x00, 0x00], .bl true] := by decide
/-- F4: an oversized panel writes nothing. -/
theorem test_init_refused : seen (fun t => (t.tx, t.drvReady, t.width, t.refuseReason)) (initOn cfg 240 321 0 State.reset) =
    some ([], false, 0, some .geometryUnsupported) := by decide
/-- V12, 40_driver_ops.md R109: the default offsets of a 135×240 panel. -/
theorem test_default_offsets :
    [0, 1, 2, 3].map (cfg.offset (cfg.geomClass 135 240) 135 240) = [(53, 40), (40, 52), (52, 40), (40, 53)] := by decide
/-- V18f, V18j. -/
theorem test_pack565 : seen State.resp (exec (.pack565 8 4 8) State.reset) = some 0x0821 := by decide
theorem test_pack565_mixed : seen State.resp (exec (.pack565 0x12 0x34 0x56) State.reset) = some 0x11AA := by decide
/-- F1, F11: NotReady, before any other check. -/
theorem test_not_ready : seen (fun t => (t.tx, t.refused, t.refuseReason)) (exec (.fillwin 0 0 0 0 4096 1) State.reset) =
    some ([], true, some .notReady) := by decide
/-- R71, the last event of V1 in Transport primitives. -/
theorem test_expand : expandTrace [.cmd 0x2C] =
    [.dcPin true, .csPin true, .send [0x2C], .wait, .csPin false] := by decide
/-- R73. -/
theorem test_wire : wire [.cmd 0x2A, .delay 5, .data [0x00, 0x0A]] =
    [(.command, 0x2A), (.data, 0x00), (.data, 0x0A)] := by decide

/-! ### ENG (95_test_vectors.md 2.9 to 2.13) -/

/-- E1i, E1l. -/
theorem test_wrap : seen State.resp (exec (.wrap (-25)) State.reset) = some 23 := by decide
theorem test_wrap_lowest : seen State.resp (exec (.wrap (-32768)) State.reset) = some 16 := by decide
/-- E2g, E2p. -/
theorem test_wrapdiff : seen State.resp (exec (.wrapdiff 13 0) State.reset) = some 0xFFF5 := by decide
theorem test_wrapdiff_wide : seen State.resp (exec (.wrapdiff 32767 (-32768)) State.reset) = some 0xFFF7 := by decide
/-- E3g, E3c. -/
theorem test_collide : seen State.resp (exec (.collide (-11)) (game .play [13, 11] 0 0 false false)) = some 1 := by decide
theorem test_collide_neighbour :
    seen State.resp (exec (.collide 12) (game .play [13, 11] 0 0 false false)) = some 0 := by decide
/-- E32, E34. -/
theorem test_rpos : seen State.resp (exec (.rpos 0) (game .play [23] 23 0 false false)) = some 22 := by decide
theorem test_rpos_refused :
    seen State.refuseReason (exec (.rpos 1) (game .play [13] 0 0 false false)) = some (some .needleIndex) := by decide
/-- E11, E17. -/
theorem test_frame_places : seen engView (exec (.frame true) (game .play [13] 6 0 false false)) =
    some (.play, [13, 12], 7, 0, false, true) := by decide
theorem test_frame_collides : seen engView (exec (.frame true) (game .play [18] 0 0 false false)) =
    some (.flash, [18], 1, 0, false, true) := by decide
/-- E16: a full set, from a constructed state. -/
theorem test_frame_full : seen engView (exec (.frame true) (game .play (List.replicate 30 0) 0 0 false false)) =
    some (.flash, List.replicate 30 0, 1, 0, false, true) := by decide
/-- E14: SPIN 23 advances to 0. -/
theorem test_frame_wraps : seen engView (exec (.frame true) (game .play [] 23 0 false false)) =
    some (.play, [19], 0, 0, false, true) := by decide
/-- E19, E21. -/
theorem test_frame_flash : seen engView (exec (.frame true) (game .flash [18] 3 2 false false)) =
    some (.flash, [18], 4, 3, true, true) := by decide
theorem test_frame_exit : seen engView (exec (.frame true) (game .flash [18] 6 5 true true)) =
    some (.play, [], 0, 0, false, false) := by decide
/-- E23. -/
theorem test_enginit : seen engView (exec .enginit (game .flash [1, 2, 3] 11 3 true false)) =
    some (.play, [], 0, 0, false, false) := by decide

/-! ### Memory and steps -/

theorem test_memory_write : Memory.write [(1, 5), (7, 9)] 3 4 = [(1, 5), (3, 4), (7, 9)] := by decide
theorem test_memory_erase : Memory.write [(1, 5), (7, 9)] 7 0 = [(1, 5)] := by decide
theorem test_reset_memory : Memory.wf State.reset.pixbuf ∧ Memory.wf State.reset.rowbuf := by decide
/-- F13, R30: a reserved request is refused and retired. -/
theorem test_step_reserved : seen (fun t => (t.refused, t.refuseReason, t.pc)) (step (State.reset.withFetchWord 136 0)) =
    some (true, some .reservedOpcode, 1) := by decide
/-- E10 through a step. -/
theorem test_step_frame : seen engView (step (State.reset.withFetchWord 136 0x111)) =
    some (.play, [18], 1, 0, false, true) := by decide

/-- F2 then E10 as a run: the refused SETROT does not end it, and the observation holds BTN_PREV and REFUSED (R187). -/
theorem test_observeRun :
    (observeRun [0x02, 0x111]).map (fun o => (o.status.refused, o.status.needles, o.btnPrev, o.drvReady, o.tx)) =
      some (true, [18], true, false, []) := by decide

/-- R48: a configured pair past the bound is never read, one that keeps it is; no bound where INIT refuses the panel. -/
theorem test_offset_bound :
    ({ cfg with openOffset := fun _ _ _ _ => (321, 0) } : Cfg).offset .centeredEven 240 1 1 = (0, 0)
      ∧ ({ cfg with openOffset := fun _ _ _ _ => (320, 559) } : Cfg).offset .centeredEven 240 1 1 = (320, 559)
      ∧ ({ cfg with openOffset := fun _ _ _ _ => (0xFFFF, 560) } : Cfg).offset .centeredEven 0 1 1 = (0xFFFF, 560)
      ∧ ({ cfg with openOffset := fun _ _ _ _ => (0xFFFF, 560) } : Cfg).offset .centeredEven 1 321 1 = (0xFFFF, 560) := by
  decide

end Sys2Proof.Tests
end

