-- ==== Sys2Proof/Tests/Witnesses.lean ====
section
/-! SUPPORT. For each statement with hypotheses, a concrete state and operands that meet all of them together, for each clause
at a boundary. -/

namespace Sys2Proof.Tests

open Sys2Proof Sys2Proof.Machine Sys2Proof.Safety

theorem current_cols (n : Nat) (h : n ≤ 240) : n ≤ Config.current.ctrlCols := by
  simp only [Cfg.ctrlCols]; omega

theorem current_cols_bound : Config.current.ctrlCols < 65535 := by
  have := Config.current.extraCols.isLt
  simp only [Cfg.ctrlCols]; omega

/-! ### Encoding and steps -/

theorem witness_DecodeEncodeRoundTrip :
    Instr.wellFormed (.fillwin 0 0 0xFFFF 0xFFFF (2 ^ 32 - 1) (2 ^ 32 - 1)) = true
      ∧ Instr.wellFormed (.wrapdiff (-32768) 32767) = true ∧ Instr.wellFormed (.rpos 31) = true := by decide

theorem witness_DecodedWordKeepsUsedBits : decode 0x0000000600000005000400030002000110 = .ok .enginit := by rfl

theorem witness_ReservedOpcodeRefused :
    (State.reset.withFetchWord 136 0x16).moves = .request 0x16 :: []
      ∧ fieldOp 0x16 ∉
        ([0x01, 0x02, 0x03, 0x04, 0x05, 0x06, 0x07, 0x10, 0x11, 0x12, 0x13, 0x14, 0x15] : List Byte) := by decide

theorem witness_StepRunsDecodedRequest :
    (State.reset.withFetchWord 136 0x111).moves = .request 0x111 :: [] ∧ decode 0x111 = .ok (.frame true)
      ∧ ∃ t, exec (.frame true) (State.reset.withFetchWord 136 0x111) = .next t := ⟨by decide, by rfl, _, rfl⟩

theorem witness_WaitingAndHostWrites :
    State.reset.moves = []
      ∧ (({ State.reset with moves := [.setPixel 4095 1] } : State).moves = .setPixel 4095 1 :: []
        ∧ 4095 < cfg.pixbufSize)
      ∧ ({ State.reset with moves := [.setPixel 4096 1] } : State).moves = .setPixel 4096 1 :: []
      ∧ cfg.pixbufSize ≤ 4096 ∧ Memory.wf State.reset.pixbuf := by decide

theorem witness_RequestIndexAdvancesByOne :
    (State.reset.withFetchWord 136 0x111).moves = .request 0x111 :: []
      ∧ ∃ t, step (State.reset.withFetchWord 136 0x111) = .next t := ⟨by decide, _, rfl⟩

/-! ### ENG -/

theorem witness_WrapResultAndLaws : IsS16 (-32768) ∧ IsS16 32767 := by decide

theorem witness_WrapdiffResultAndLaws : (IsS16 32767 ∧ IsS16 (-32768)) ∧ (24 : Int) ∣ (0 - 12) - 12
    ∧ ¬ (24 : Int) ∣ (0 - 11) - 12 := by decide

theorem witness_CollideResult_one : IsS16 (-11) ∧ ∃ k n, k < (game .play [13] 0 0 false false).count.val
    ∧ (game .play [13] 0 0 false false).needles[k]? = some n ∧ (wrapDiff (-11) (n.toNat : Int)).natAbs < 1 :=
  ⟨by decide, 0, 13, by decide, by decide, by decide⟩

theorem witness_CollideResult_zero : IsS16 32767 ∧ ¬ ∃ k n, k < State.reset.count.val
    ∧ State.reset.needles[k]? = some n ∧ (wrapDiff 32767 (n.toNat : Int)).natAbs < 1 := by
  refine ⟨by decide, ?_⟩
  rintro ⟨k, _, hk, _⟩
  exact absurd hk (Nat.not_lt_zero k)

theorem witness_CollideResult_slots : IsS16 0 ∧ EngInv (game .play [13, 11] 23 0 false false) := by decide

theorem witness_RposResult : (IsU5 29 ∧ 29 < (game .play (List.replicate 30 0) 0 0 false false).count.val
      ∧ (game .play (List.replicate 30 0) 0 0 false false).needles[29]? = some 0)
    ∧ IsU5 31 ∧ (game .play [13] 0 0 false false).count.val ≤ 1 := by decide

theorem witness_FrameInPlayWithoutEdge : (game .play [18] 1 0 false true).gameState = .play
    ∧ ¬ ((game .play [18] 1 0 false true).btnPrev = false ∧ true = true) := by decide

theorem witness_FramePlacementOnEdge_collides : (game .play [18] 0 0 false false).gameState = .play
    ∧ (game .play [18] 0 0 false false).btnPrev = false
    ∧ ∃ k n, k < (game .play [18] 0 0 false false).count.val ∧ (game .play [18] 0 0 false false).needles[k]? = some n
      ∧ (wrapDiff 18 (n.toNat : Int)).natAbs < 1 :=
  ⟨rfl, rfl, 0, 18, by decide, by decide, by decide⟩

theorem witness_FramePlacementOnEdge_full :
    (game .play (List.replicate 30 0) 0 0 false false).gameState = .play
      ∧ (game .play (List.replicate 30 0) 0 0 false false).btnPrev = false
      ∧ (game .play (List.replicate 30 0) 0 0 false false).count.val = 30 := by decide

theorem witness_FramePlacementOnEdge_places : State.reset.gameState = .play ∧ State.reset.btnPrev = false
    ∧ (¬ ∃ k n, k < State.reset.count.val ∧ State.reset.needles[k]? = some n
      ∧ (wrapDiff 18 (n.toNat : Int)).natAbs < 1) ∧ State.reset.count.val < 30 := by
  refine ⟨rfl, rfl, ?_, by decide⟩
  rintro ⟨k, _, hk, _⟩
  exact absurd hk (Nat.not_lt_zero k)

theorem witness_FrameInFlash :
    ((game .flash [18] 1 4 false false).gameState = .flash ∧ (game .flash [18] 1 4 false false).fcnt ≠ 5)
      ∧ (game .flash [18] 6 5 true true).gameState = .flash ∧ (game .flash [18] 6 5 true true).fcnt = 5 := by decide

theorem witness_FlashLastsSixFrames : (game .flash [18] 1 0 false true).gameState = .flash
    ∧ (game .flash [18] 1 0 false true).fcnt = 0 ∧ [true, false, true, false, true].length < 6
    ∧ [true, false, true, false, true, false].length = 6 := by decide

theorem witness_HeldButtonPlacesAfterFlash : (game .flash [18] 6 5 true true).gameState = .flash
    ∧ (game .flash [18] 6 5 true true).fcnt = 5 := by decide

theorem witness_NewNeedleRendersAtNineteen : (game .play [13] 23 0 false false).spin.toNat < 24
    ∧ ∃ t, exec (.frame true) (game .play [13] 23 0 false false) = .next t
      ∧ t.count.val = (game .play [13] 23 0 false false).count.val + 1 := ⟨by decide, _, rfl, by decide⟩

theorem witness_PlacedNeedleCollidesAtOnce : ∃ t, exec (.frame true) State.reset = .next t
    ∧ t.count.val = State.reset.count.val + 1 := ⟨_, rfl, by decide⟩

/-- A full needle file is a constructed state: no run from reset has it (41_engine_ops.md R129 (4)). -/
theorem witness_StatedEngineLaws :
    ((0 : Int) ≤ 23 ∧ (23 : Int) < 24 ∧ (game .play (List.replicate 29 0) 0 0 false false).count.val < 30)
      ∧ ((game .play (List.replicate 30 0) 31 0 false false).count.val = 30
        ∧ (game .play (List.replicate 30 0) 31 0 false false).gameState = .play
        ∧ (game .play (List.replicate 30 0) 31 0 false false).btnPrev = false)
      ∧ ((game .flash [18] 1 0 false true).gameState = .flash ∧ (game .flash [18] 1 0 false true).fcnt = 0
        ∧ [true, false, true, false, true].length < 6 ∧ [true, false, true, false, true, false].length = 6)
      ∧ (game .play [] 5 0 false false).gameState = .play ∧ (game .play [] 5 0 false false).count = 0
      ∧ (game .play [] 5 0 false false).spin = 5 ∧ (game .play [] 5 0 false false).btnPrev = false := by decide

theorem witness_FullTurnInTwentyFourFrames : (game .play [18] 23 0 false true).gameState = .play
    ∧ (game .play [18] 23 0 false true).spin.toNat < 24 := by decide

theorem witness_RenderedPositionsDistinct : EngInv (game .play [13, 11] 23 0 false false) ∧ 0 < 1
    ∧ 1 < (game .play [13, 11] 23 0 false false).count.val
    ∧ (∃ t, exec (.rpos 0) (game .play [13, 11] 23 0 false false) = .next t)
    ∧ ∃ u, exec (.rpos 1) (game .play [13, 11] 23 0 false false) = .next u :=
  ⟨by decide, by decide, by decide, ⟨_, rfl⟩, _, rfl⟩

/-! ### DRV -/

theorem witness_NotReadyRefused : State.reset.drvReady = false
    ∧ (∃ m, Instr.setrot 0 = .setrot m) ∧ (∃ x0 y0 x1 y1, Instr.setwin 0 0 0 0 = .setwin x0 y0 x1 y1)
    ∧ (∃ x0 y0 x1 y1 p n, Instr.fillwin 0 0 0 0 4096 1 = .fillwin x0 y0 x1 y1 p n)
    ∧ (∃ c, Instr.fillscr 0 = .fillscr c) ∧ (∃ x y c, Instr.drawpix 0 0 0 = .drawpix x y c) :=
  ⟨rfl, ⟨_, rfl⟩, ⟨_, _, _, _, rfl⟩, ⟨_, _, _, _, _, _, rfl⟩, ⟨_, rfl⟩, _, _, _, rfl⟩

theorem witness_InitResult : Memory.wf State.reset.rowbuf
    ∧ Config.current.ctrlCols < (0xFFFF : U16).toNat ∧ 320 < (321 : U16).toNat
    ∧ ¬ ((240 : U16) = 0 ∨ (320 : U16) = 0 ∨ Config.current.ctrlCols < (240 : U16).toNat ∨ 320 < (320 : U16).toNat) := by
  refine ⟨by decide, current_cols_bound, by decide, ?_⟩
  have := current_cols 240 (by omega)
  simp; omega

theorem witness_InitEventCount : (1 : U16) ≠ 0 ∧ (320 : U16) ≠ 0 ∧ (1 : U16).toNat ≤ Config.current.ctrlCols
    ∧ (320 : U16).toNat ≤ 320 ∧ ∃ t, exec (.init 1 320 0) State.reset = .next t := by
  refine ⟨by decide, by decide, current_cols 1 (by omega), by decide, ?_⟩
  have h : geometryUnsupported Config.current 1 320 = false := by
    have := current_cols 1 (by omega)
    simp [geometryUnsupported, ctrlRows]; omega
  exact ⟨_, by simp only [exec, execInit, initOn, h, Bool.false_eq_true, if_false]; rfl⟩

theorem witness_SquarePanelOffsetPair : (4 : Byte).toNat % 4 = 0 := by decide

theorem witness_ready : panel.drvReady = true ∧ State.reset.drvReady = false := ⟨rfl, rfl⟩

theorem witness_FillwinResult :
    (IsU32 0 ∧ IsU32 (min Config.current.pixbufSize (2 ^ 32 - 1)) ∧ panel.drvReady = true
        ∧ 0 + min Config.current.pixbufSize (2 ^ 32 - 1) ≤ Config.current.pixbufSize)
      ∧ (IsU32 4096 ∧ IsU32 1 ∧ cfg.pixbufSize < 4096 + 1) ∧ State.reset.drvReady = false := by
  refine ⟨⟨by decide, ?_, rfl, by omega⟩, by decide, rfl⟩
  show min Config.current.pixbufSize (2 ^ 32 - 1) < 2 ^ 32
  omega

theorem witness_FillwinWireColours : panel.drvReady = true ∧ 4035 + 61 ≤ cfg.pixbufSize
    ∧ ∃ t, fillwinOn cfg 0 0 60 0 4035 61 panel = .next t := by
  have h : ¬ cfg.pixbufSize < 4035 + 61 := by decide
  exact ⟨rfl, by decide, _, by simp only [fillwinOn, whenReady_ready _ (show panel.drvReady = true from rfl), if_neg h]; rfl⟩

theorem witness_FillscrResult : Memory.wf panel.rowbuf ∧ panel.drvReady = true
    ∧ panel.width.toNat ≤ Config.current.ctrlCols := ⟨by decide, rfl, current_cols 240 (by omega)⟩

theorem witness_FillscrPastRowBufferStops : ({ panel with width := 0xFFFF } : State).drvReady = true
    ∧ Config.current.ctrlCols < ({ panel with width := 0xFFFF } : State).width.toNat := ⟨rfl, current_cols_bound⟩

theorem witness_FillscrPixelBytes : Memory.wf panel.rowbuf ∧ panel.drvReady = true
    ∧ ∃ t, exec (.fillscr 0xF800) panel = .next t := by
  have h : ¬ Config.current.ctrlCols < panel.width.toNat := by
    have := current_cols 240 (by omega)
    simp [panel]; omega
  exact ⟨by decide, rfl, _, by
    simp only [exec, execFillscr, fillscrOn, whenReady_ready _ (show panel.drvReady = true from rfl), if_neg h]; rfl⟩

theorem witness_DrawpixResult : (panel.drvReady = true ∧ panel.width.toNat ≤ (240 : U16).toNat)
    ∧ (panel.drvReady = true ∧ panel.height.toNat ≤ (0xFFFF : U16).toNat)
    ∧ (239 : U16).toNat < panel.width.toNat ∧ (239 : U16).toNat < panel.height.toNat := by decide

theorem witness_DrawpixIsOnePixelFillwin : (239 : U16).toNat < panel.width.toNat ∧ (0 : U16).toNat < panel.height.toNat
    ∧ 4095 + 1 ≤ cfg.pixbufSize
    ∧ Memory.read ({ panel with pixbuf := [(4095, 0xF800)] } : State).pixbuf 4095 = 0xF800 := by decide

theorem witness_FillscrIsFullPanelFillwin : tiny.drvReady = true ∧ Memory.wf tiny.rowbuf
    ∧ tiny.width.toNat ≤ cfg.ctrlCols ∧ 4094 + tiny.width.toNat * tiny.height.toNat ≤ cfg.pixbufSize
    ∧ (∀ i, i < tiny.width.toNat * tiny.height.toNat →
        Memory.read ({ tiny with pixbuf := [(4094, 0xF800), (4095, 0xF800)] } : State).pixbuf (4094 + i) = 0xF800) := by
  decide

theorem witness_EverySendIsWaitedFor : (expandTrace [.rst true, .data [0x12]])[3]? = some (.send [0x12]) := by decide

/-! ### Frames and invariants -/

theorem witness_TraceAppendOnly : ∃ t, step ({ panel with moves := [.request 0x0000000000000000001D00130014000A03] }) = .next t :=
  ⟨_, rfl⟩

theorem witness_RefusedSticky : ({ panel with refused := true, moves := [.request 0x0A03] } : State).refused = true
    ∧ ∃ t, step ({ panel with refused := true, moves := [.request 0x0A03] }) = .next t := ⟨rfl, _, rfl⟩

theorem witness_RefusalIsAtomic : ∃ t, exec (.setrot 1) State.reset = .next t ∧ State.reset.refused = false
    ∧ t.refused = true := ⟨_, rfl, rfl, rfl⟩

theorem witness_EveryOperationAnswersNext : panel.drvReady = true → panel.width.toNat ≤ Config.current.ctrlCols :=
  fun _ => current_cols 240 (by omega)

theorem witness_OperationsLeaveBufferAndRequests :
    ∃ t, exec (.setwin 0 0 9 9) { panel with pixbuf := [(3, 7)], moves := [.request 0x10] } = .next t := ⟨_, rfl⟩

theorem witness_RespWrittenByFive : ∃ t, exec (.wrap (-1)) State.reset = .next t ∧ t.resp ≠ State.reset.resp :=
  ⟨_, rfl, by decide⟩

theorem witness_DriverRegistersWriters : ∃ t, exec (.setrot 2) panel = .next t := ⟨_, rfl⟩

theorem witness_UnitsShareNoState : (∃ t, exec (.setrot 1) panel = .next t) ∧ isDrv (.setrot 1) = true
    ∧ SameAnswers panel { panel with count := 3, spin := 9 } ∧ SameDrv panel { panel with count := 3, spin := 9 }
    ∧ (∃ t, exec (.frame true) panel = .next t) ∧ isDrv (.frame true) = false
    ∧ SameAnswers panel { panel with width := 5 } ∧ SameEng panel { panel with width := 5 } :=
  ⟨⟨_, rfl⟩, rfl, by decide, by decide, ⟨_, rfl⟩, rfl, by decide, by decide⟩

theorem witness_OnlyFailedPlacementEntersFlash : ∃ t, exec (.frame true) (game .play [18] 0 0 false false) = .next t
    ∧ (game .play [18] 0 0 false false).gameState = .play ∧ t.gameState = .flash := ⟨_, rfl, rfl, by decide⟩

theorem witness_NeedleFileAppendOnly : ∃ t, exec (.frame true) (game .play [13] 6 0 false false) = .next t := ⟨_, rfl⟩

theorem witness_EngineInvariantKept : EngInv { game .play [13] 6 0 false false with moves := [.request 0x111] }
    ∧ ∃ t, step { game .play [13] 6 0 false false with moves := [.request 0x111] } = .next t := ⟨by decide, _, rfl⟩

theorem witness_AtMostTwentyFourNeedles :
    EngInv (game .flash ((List.range 24).map (BitVec.ofNat 5)) 23 5 true true) := by decide

/-- A ready panel of one by one pixels, as SETROT 0 leaves it. -/
def readyPanel : State :=
  { State.reset with
    drvReady := true, width := 1, height := 1, geom := Config.current.geomClass 1 1,
    xstart := (Config.current.offset (Config.current.geomClass 1 1) 1 1 0).1,
    ystart := (Config.current.offset (Config.current.geomClass 1 1) 1 1 0).2,
    tx := [.cmd (Config.current.cmd .madctl), .data [Config.current.madctlData 0]],
    moves := [.request 0x0102] }

theorem readyPanel_inv : DrvInv Config.current readyPanel := by
  refine fun _ => ⟨⟨by decide, current_cols 1 (by omega)⟩, by decide, rfl, rfl, ?_⟩
  simp [readyPanel, State.reset, madctlOf, madctlStep]

theorem witness_DriverInvariantKept : DrvInv Config.current readyPanel ∧ readyPanel.drvReady = true
    ∧ ∃ t, step readyPanel = .next t := ⟨readyPanel_inv, rfl, _, rfl⟩

theorem witness_RequestListRunsToItsEnd : DrvInv Config.current readyPanel := readyPanel_inv

theorem witness_InPanelSumsDoNotWrap : DrvInv Config.current readyPanel ∧ readyPanel.drvReady = true
    ∧ (0 : U16).toNat < readyPanel.width.toNat ∧ (0 : U16).toNat < readyPanel.height.toNat :=
  ⟨readyPanel_inv, rfl, by decide, by decide⟩

theorem witness_TraceFramingKept : TraceInv Config.current { panel with moves := [.request 0x03] }
    ∧ ∃ t, step { panel with moves := [.request 0x03] } = .next t := ⟨.inl rfl, _, rfl⟩

theorem witness_MemoryFormKept :
    MemInv Config.current { panel with rowbuf := [(0, 7), (239, 7)], moves := [.request 0x10] }
    ∧ ∃ t, step { panel with rowbuf := [(0, 7), (239, 7)], moves := [.request 0x10] } = .next t := by
  have h := current_cols 240 (by omega)
  refine ⟨⟨⟨by decide, by simp [panel, State.reset]⟩, by decide, ?_⟩, _, rfl⟩
  intro p hp
  simp at hp
  rcases hp with rfl | rfl <;> simp <;> omega

theorem witness_CanonicalMemoriesEqual : Memory.wf [(0, 5), (7, 9)] ∧ Memory.wf (Memory.write [(7, 9)] 0 5)
    ∧ ∀ a, Memory.read [(0, 5), (7, 9)] a = Memory.read (Memory.write [(7, 9)] 0 5) a :=
  ⟨by decide, by decide, fun _ => rfl⟩

end Sys2Proof.Tests
end

section
/-! PROOFS. The two units share no state (00_scope.md R1).

The idea: `withEngOf e s` is `s` with everything that is neither DRV's nor an answer taken from `e`. An operation of DRV
commutes with that replacement. Taking `e` to be the other state gives independence of ENG, and taking it to be the state
itself gives the frame. `withDrvOf` is the same for the operations of ENG. -/

namespace Sys2Proof.Proofs

open Sys2Proof.Machine Sys2Proof.Safety

/-! ### Replacing the fields an operation has no business with -/

/-- `s` with the registers of ENG, and the host's moves, of `e`: what an operation of DRV must neither read nor write. -/
def withEngOf (e s : State) : State :=
  { s with
    needles := e.needles, count := e.count, spin := e.spin, gameState := e.gameState, fcnt := e.fcnt
    fphase := e.fphase, btnPrev := e.btnPrev, moves := e.moves, pc := e.pc }

/-- `s` with the registers and memories of DRV, and the host's moves, of `d`: what an operation of ENG must neither read
nor write. -/
def withDrvOf (d s : State) : State :=
  { s with
    drvReady := d.drvReady, width := d.width, height := d.height, geom := d.geom, rot := d.rot, xstart := d.xstart
    ystart := d.ystart, rowbuf := d.rowbuf, tx := d.tx, pixbuf := d.pixbuf, moves := d.moves, pc := d.pc }

/-- The outcome with `f` applied to the next state, where there is one. -/
def mapNext (f : State → State) : Host.Outcome State Fault Refusal → Host.Outcome State Fault Refusal
  | .next t => .next (f t)
  | .fault x => .fault x
  | .refused r => .refused r

variable {e d s t : State}

theorem withEngOf_self (s : State) : withEngOf s s = s := rfl

theorem withDrvOf_self (s : State) : withDrvOf s s = s := rfl

theorem sameEng_withEngOf (e s : State) : SameEng e (withEngOf e s) := ⟨rfl, rfl, rfl, rfl, rfl, rfl, rfl⟩

theorem sameDrv_withEngOf (e s : State) : SameDrv s (withEngOf e s) :=
  ⟨rfl, rfl, rfl, rfl, rfl, rfl, rfl, rfl, rfl, rfl⟩

theorem sameAnswers_withEngOf (e s : State) : SameAnswers s (withEngOf e s) := ⟨rfl, rfl, rfl⟩

theorem sameDrv_withDrvOf (d s : State) : SameDrv d (withDrvOf d s) :=
  ⟨rfl, rfl, rfl, rfl, rfl, rfl, rfl, rfl, rfl, rfl⟩

theorem sameEng_withDrvOf (d s : State) : SameEng s (withDrvOf d s) := ⟨rfl, rfl, rfl, rfl, rfl, rfl, rfl⟩

theorem sameAnswers_withDrvOf (d s : State) : SameAnswers s (withDrvOf d s) := ⟨rfl, rfl, rfl⟩

/-- Agreement on DRV and the answers says that the two states differ in replaced fields only. -/
theorem withEngOf_eq_of_same (hd : SameDrv s e) (ha : SameAnswers s e) : withEngOf e s = e := by
  obtain ⟨hready, hwidth, hheight, hgeom, hrot, hx, hy, hrow, htx, hpix⟩ := hd
  obtain ⟨hresp, hrefused, hreason⟩ := ha
  exact State.ext hready hwidth hheight hgeom hrot hx hy hrow htx rfl rfl rfl rfl rfl rfl rfl hresp hrefused hreason hpix
    rfl rfl

/-- Agreement on ENG and the answers says that the two states differ in replaced fields only. -/
theorem withDrvOf_eq_of_same (he : SameEng s d) (ha : SameAnswers s d) : withDrvOf d s = d := by
  obtain ⟨hneedles, hcount, hspin, hgame, hfcnt, hphase, hbtn⟩ := he
  obtain ⟨hresp, hrefused, hreason⟩ := ha
  exact State.ext rfl rfl rfl rfl rfl rfl rfl rfl rfl hneedles hcount hspin hgame hfcnt hphase hbtn hresp hrefused hreason
    rfl rfl rfl

/-! ### DRV commutes with replacing ENG -/

/-- DRV_READY is DRV's own, so a guarded operation commutes when its body does. -/
theorem whenReady_withEngOf {body : State → Host.Outcome State Fault Refusal}
    (hbody : body (withEngOf e s) = mapNext (withEngOf e) (body s)) :
    whenReady (withEngOf e s) body = mapNext (withEngOf e) (whenReady s body) := by
  have hkept : (withEngOf e s).drvReady = s.drvReady := rfl
  cases hr : s.drvReady with
  | true => rw [whenReady_ready body hr, whenReady_ready body (hkept.trans hr), hbody]
  | false => rw [whenReady_notReady body hr, whenReady_notReady body (hkept.trans hr)]; rfl

theorem execInit_withEngOf (width height : U16) (rotation : Byte) :
    execInit width height rotation (withEngOf e s) = mapNext (withEngOf e) (execInit width height rotation s) := by
  unfold execInit initOn
  split <;> rfl

theorem execSetrot_withEngOf (m : Byte) :
    execSetrot m (withEngOf e s) = mapNext (withEngOf e) (execSetrot m s) := by
  unfold execSetrot setrotOn
  exact whenReady_withEngOf rfl

theorem execSetwin_withEngOf (x0 y0 x1 y1 : U16) :
    execSetwin x0 y0 x1 y1 (withEngOf e s) = mapNext (withEngOf e) (execSetwin x0 y0 x1 y1 s) := by
  unfold execSetwin setwinOn
  exact whenReady_withEngOf rfl

theorem execFillwin_withEngOf (x0 y0 x1 y1 : U16) (buffer count : Nat) :
    execFillwin x0 y0 x1 y1 buffer count (withEngOf e s)
      = mapNext (withEngOf e) (execFillwin x0 y0 x1 y1 buffer count s) := by
  unfold execFillwin fillwinOn
  refine whenReady_withEngOf ?_
  split <;> rfl

theorem execFillscr_withEngOf (color : U16) :
    execFillscr color (withEngOf e s) = mapNext (withEngOf e) (execFillscr color s) := by
  unfold execFillscr fillscrOn
  refine whenReady_withEngOf ?_
  rw [apply_ite (mapNext (withEngOf e))]
  rfl

theorem execDrawpix_withEngOf (x y color : U16) :
    execDrawpix x y color (withEngOf e s) = mapNext (withEngOf e) (execDrawpix x y color s) := by
  unfold execDrawpix drawpixOn
  refine whenReady_withEngOf ?_
  rw [apply_ite (mapNext (withEngOf e))]
  rfl

/-- An operation of DRV reads and writes nothing that `withEngOf` replaces. -/
theorem exec_withEngOf {i : Instr} (hi : isDrv i = true) (e s : State) :
    exec i (withEngOf e s) = mapNext (withEngOf e) (exec i s) := by
  cases i with
  | init width height rotation => exact execInit_withEngOf width height rotation
  | setrot m => exact execSetrot_withEngOf m
  | setwin x0 y0 x1 y1 => exact execSetwin_withEngOf x0 y0 x1 y1
  | fillwin x0 y0 x1 y1 buffer count => exact execFillwin_withEngOf x0 y0 x1 y1 buffer count
  | fillscr color => exact execFillscr_withEngOf color
  | drawpix x y color => exact execDrawpix_withEngOf x y color
  | pack565 r g b => rfl
  | enginit | frame _ | wrap _ | wrapdiff _ _ | collide _ | rpos _ => cases hi

/-! ### ENG commutes with replacing DRV -/

/-- The test of `place` reads the needle file, COUNT and SPIN, none of which is replaced. -/
theorem place_withDrvOf (d s : State) : place (withDrvOf d s) = withDrvOf d (place s) := by
  unfold place
  rw [apply_ite (withDrvOf d)]
  rfl

theorem framePlay_withDrvOf (edge : Bool) (d s : State) :
    framePlay edge (withDrvOf d s) = withDrvOf d (framePlay edge s) := by
  cases edge with
  | false => rfl
  | true => exact congrArg advanceSpin (place_withDrvOf d s)

theorem frameFlash_withDrvOf (d s : State) : frameFlash (withDrvOf d s) = withDrvOf d (frameFlash s) := by
  unfold frameFlash
  rw [apply_ite (withDrvOf d)]
  rfl

theorem execFrame_withDrvOf (level : Bool) :
    execFrame level (withDrvOf d s) = mapNext (withDrvOf d) (execFrame level s) := by
  have hkept : (withDrvOf d s).gameState = s.gameState := rfl
  cases hg : s.gameState with
  | play =>
    simp only [execFrame, sampleButton_gameState, hkept, hg, mapNext]
    exact congrArg _ (framePlay_withDrvOf _ d (sampleButton level s))
  | flash =>
    simp only [execFrame, sampleButton_gameState, hkept, hg, mapNext]
    exact congrArg _ (frameFlash_withDrvOf d (sampleButton level s))

theorem execRpos_withDrvOf (k : Nat) :
    execRpos k (withDrvOf d s) = mapNext (withDrvOf d) (execRpos k s) := by
  have hkept : (withDrvOf d s).valid = s.valid := rfl
  unfold execRpos
  rw [hkept]
  cases s.valid[k]? with
  | none => rfl
  | some n => rfl

/-- An operation of ENG reads and writes nothing that `withDrvOf` replaces. -/
theorem exec_withDrvOf {i : Instr} (hi : isDrv i = false) (d s : State) :
    exec i (withDrvOf d s) = mapNext (withDrvOf d) (exec i s) := by
  cases i with
  | enginit => rfl
  | frame level => exact execFrame_withDrvOf level
  | wrap n => rfl
  | wrapdiff a b => rfl
  | collide c => rfl
  | rpos k => exact execRpos_withDrvOf k
  | init _ _ _ | setrot _ | setwin _ _ _ _ | fillwin _ _ _ _ _ _ | fillscr _ | drawpix _ _ _ | pack565 _ _ _ => cases hi

/-! ### Noninterference -/

/-- Replacing fields by their own values shows that an operation which commutes with the replacement leaves them alone. -/
theorem eq_replaced_of_commutes {f : State → State → State} {i : Instr} (hself : f s s = s)
    (hcomm : exec i (f s s) = mapNext (f s) (exec i s)) (h : exec i s = .next t) : t = f s t := by
  rw [hself, h] at hcomm
  exact Host.Outcome.next.inj hcomm

/-- A DRV operation leaves ENG alone (00_scope.md R1). -/
theorem exec_sameEng {i : Instr} (hi : isDrv i = true) (h : exec i s = .next t) : SameEng s t :=
  eq_replaced_of_commutes (withEngOf_self s) (exec_withEngOf hi s s) h ▸ sameEng_withEngOf s t

/-- An ENG operation leaves DRV alone (00_scope.md R1). -/
theorem exec_sameDrv {i : Instr} (hi : isDrv i = false) (h : exec i s = .next t) : SameDrv s t :=
  eq_replaced_of_commutes (withDrvOf_self s) (exec_withDrvOf hi s s) h ▸ sameDrv_withDrvOf s t

/-- A DRV operation's effect does not depend on ENG (00_scope.md R1). -/
theorem exec_independent_of_eng {i : Instr} {s' : State} (hi : isDrv i = true) (h : exec i s = .next t)
    (hd : SameDrv s s') (ha : SameAnswers s s') : ∃ t', exec i s' = .next t' ∧ SameDrv t t' ∧ SameAnswers t t' := by
  have hrun : exec i s' = .next (withEngOf s' t) := by
    have hcomm := exec_withEngOf hi s' s
    rwa [withEngOf_eq_of_same hd ha, h] at hcomm
  exact ⟨_, hrun, sameDrv_withEngOf s' t, sameAnswers_withEngOf s' t⟩

/-- An ENG operation's effect does not depend on DRV (00_scope.md R1). -/
theorem exec_independent_of_drv {i : Instr} {s' : State} (hi : isDrv i = false) (h : exec i s = .next t)
    (he : SameEng s s') (ha : SameAnswers s s') : ∃ t', exec i s' = .next t' ∧ SameEng t t' ∧ SameAnswers t t' := by
  have hrun : exec i s' = .next (withDrvOf s' t) := by
    have hcomm := exec_withDrvOf hi s' s
    rwa [withDrvOf_eq_of_same he ha, h] at hcomm
  exact ⟨_, hrun, sameEng_withDrvOf s' t, sameAnswers_withDrvOf s' t⟩

/-- Settles O51: each operation commutes with replacing the other unit's fields. -/
theorem unitsShareNoState : Obligations.UnitsShareNoState := by
  intro i s s' t h ha
  exact ⟨fun hi => ⟨exec_sameEng hi h, fun hd => exec_independent_of_eng hi h hd ha⟩,
    fun hi => ⟨exec_sameDrv hi h, fun he => exec_independent_of_drv hi h he ha⟩⟩

end Sys2Proof.Proofs
end

section
/-! PROOFS. The state of the block (10_state.md): what each operation can do to it, said once, and what every step keeps.

The idea: `Effect s i t` lists every state `t` that operation `i` can leave, as one of the model's shared updates of `s` with
the guard under which it happens. `exec_effect` is the inversion of `exec`; which operation writes which register, what the
needle file can become and the invariant of ENG are then case splits over `Effect` whose cases are facts about one update. -/

namespace Sys2Proof.Proofs

open Sys2Proof.Machine Sys2Proof.Safety

/-! ### Everything an operation can do -/

/-- The operations that return a value in RESP (10_state.md R28). -/
abbrev ReturnsValue (i : Instr) : Prop :=
  (∃ n, i = .wrap n) ∨ (∃ a b, i = .wrapdiff a b) ∨ (∃ c, i = .collide c) ∨ (∃ k, i = .rpos k)
    ∨ (∃ r g b, i = .pack565 r g b)

/-- The state INIT leaves on a panel it supports (40_driver_ops.md R100). -/
def initialised (width height : U16) (rotation : Byte) (s : State) : State :=
  { emit [.bl true] (fillscr Config.current Config.current.bgColor
      (setrot Config.current rotation (emit (bringUpEvents Config.current)
        { s with width := width, height := height, geom := Config.current.geomClass width height })))
    with drvReady := true }

/-- The states an operation can leave, each an update of the state before it under the guard of that update. FRAME has five:
the advance alone, a placement, a failed placement, a toggle of FLASH, and the toggle that leaves FLASH. -/
inductive Effect (s : State) : Instr → State → Prop
  | refused (i : Instr) (reason : RefuseReason) : Effect s i (markRefused reason s)
  | answer (i : Instr) (v : U16) (hi : ReturnsValue i) : Effect s i (setResp v s)
  | emits (i : Instr) (es : List Event) (hready : s.drvReady = true) : Effect s i (emit es s)
  | setrot (m : Byte) (hready : s.drvReady = true) : Effect s (.setrot m) (Machine.setrot Config.current m s)
  | fillscr (color : U16) (hready : s.drvReady = true) (hwidth : s.width.toNat ≤ Config.current.ctrlCols) :
      Effect s (.fillscr color) (Machine.fillscr Config.current color s)
  | init (width height : U16) (rotation : Byte) (hpanel : geometryUnsupported Config.current width height = false) :
      Effect s (.init width height rotation) (initialised width height rotation s)
  | enginit : Effect s .enginit (exitFlash s)
  | spin (level : Bool) (hplay : s.gameState = .play) (hedge : risingEdge s.btnPrev level = false) :
      Effect s (.frame level) (advanceSpin (sampleButton level s))
  | place (level : Bool) (hplay : s.gameState = .play) (hedge : risingEdge s.btnPrev level = true)
      (hfree : collision (candidate s) s = false) (hroom : s.count.val < 30) :
      Effect s (.frame level) (advanceSpin (appendNeedle (candidate s) (sampleButton level s)))
  | fail (level : Bool) (hplay : s.gameState = .play) (hedge : risingEdge s.btnPrev level = true)
      (hfail : collision (candidate s) s = true ∨ s.count.val = 30) :
      Effect s (.frame level) (advanceSpin (enterFlash (sampleButton level s)))
  | toggle (level : Bool) (hflash : s.gameState = .flash) (hmore : (s.fcnt + 1).toNat ≠ 6) :
      Effect s (.frame level) (advanceSpin (flashToggle (sampleButton level s)))
  | leave (level : Bool) (hflash : s.gameState = .flash) (hlast : (s.fcnt + 1).toNat = 6) :
      Effect s (.frame level) (exitFlash (advanceSpin (flashToggle (sampleButton level s))))

variable {s t : State} {i : Instr}

theorem emit_nil (s : State) : emit [] s = s := by simp [emit]

theorem emit_emit (es es' : List Event) (s : State) : emit es' (emit es s) = emit (es ++ es') s := by
  simp [emit]

theorem exec_init_of_supported {width height : U16} (rotation : Byte) (s : State)
    (hpanel : geometryUnsupported Config.current width height = false) :
    exec (.init width height rotation) s = .next (initialised width height rotation s) := by
  simp only [exec, execInit, initOn, hpanel, Bool.false_eq_true, if_false]
  rfl

/-- The FLASH branch leaves FLASH at the sixth toggle and only there (41_engine_ops.md R121, 60_exceptions.md R154). -/
theorem frameFlash_cases (s : State) :
    ((s.fcnt + 1).toNat = 6 ∧ frameFlash s = exitFlash (advanceSpin (flashToggle s)))
      ∨ ((s.fcnt + 1).toNat ≠ 6 ∧ frameFlash s = advanceSpin (flashToggle s)) := by
  by_cases hlast : (s.fcnt + 1).toNat = 6
  · exact .inl ⟨hlast, if_pos (beq_iff_eq.2 hlast)⟩
  · exact .inr ⟨hlast, if_neg (mt beq_iff_eq.1 hlast)⟩

theorem execFrame_effect {level : Bool} (h : execFrame level s = .next t) : Effect s (.frame level) t := by
  rcases execFrame_cases h with ⟨hplay, rfl⟩ | ⟨hflash, rfl⟩
  · cases hedge : risingEdge s.btnPrev level with
    | false => exact .spin level hplay hedge
    | true =>
      simp only [framePlay, if_true]
      rcases place_cases (sampleButton level s) with ⟨hfail, hplace⟩ | ⟨⟨hfree, hroom⟩, hplace⟩
      · rw [hplace]; exact .fail level hplay hedge hfail
      · rw [hplace]; exact .place level hplay hedge hfree hroom
  · rcases frameFlash_cases (sampleButton level s) with ⟨hlast, hframe⟩ | ⟨hmore, hframe⟩
    · rw [hframe]; exact .leave level hflash hlast
    · rw [hframe]; exact .toggle level hflash hmore

/-- Whatever an operation answers is one of its effects. -/
theorem exec_effect (h : exec i s = .next t) : Effect s i t := by
  cases i with
  | init width height rotation =>
    rcases execInit_cases h with ⟨_, rfl⟩ | ⟨hpanel, _, rfl, rfl⟩
    · exact .refused _ _
    · exact .init width height rotation hpanel
  | setrot m =>
    rcases execSetrot_cases h with ⟨hready, rfl⟩ | ⟨_, rfl⟩
    · exact .setrot m hready
    · exact .refused _ _
  | setwin x0 y0 x1 y1 =>
    rcases execSetwin_cases h with ⟨hready, rfl⟩ | ⟨_, rfl⟩
    · exact .emits _ _ hready
    · exact .refused _ _
  | fillwin x0 y0 x1 y1 buffer count =>
    rcases execFillwin_cases h with ⟨_, _, rfl⟩ | ⟨hready, _, rfl⟩ | ⟨_, rfl⟩
    · exact .refused _ _
    · rw [setwin, emit_emit]; exact .emits _ _ hready
    · exact .refused _ _
  | fillscr color =>
    rcases execFillscr_cases h with ⟨hready, hwidth, rfl⟩ | ⟨_, rfl⟩
    · exact .fillscr color hready hwidth
    · exact .refused _ _
  | drawpix x y color =>
    rcases execDrawpix_cases h with ⟨hready, _, rfl⟩ | ⟨hready, _, rfl⟩ | ⟨_, rfl⟩
    · simpa only [emit_nil] using Effect.emits (s := t) (.drawpix x y color) [] hready
    · rw [setwin, emit_emit]; exact .emits _ _ hready
    · exact .refused _ _
  | pack565 r g b => cases h; exact .answer _ _ (.inr (.inr (.inr (.inr ⟨r, g, b, rfl⟩))))
  | enginit => cases h; exact .enginit
  | frame level => exact execFrame_effect h
  | wrap n => cases h; exact .answer _ _ (.inl ⟨n, rfl⟩)
  | wrapdiff a b => cases h; exact .answer _ _ (.inr (.inl ⟨a, b, rfl⟩))
  | collide c => cases h; exact .answer _ _ (.inr (.inr (.inl ⟨c, rfl⟩)))
  | rpos k =>
    rcases execRpos_cases h with ⟨_, rfl⟩ | ⟨_, _, rfl⟩
    · exact .refused _ _
    · exact .answer _ _ (.inr (.inr (.inr (.inl ⟨k, rfl⟩))))

/-! ### Steps and the request index -/

theorem step_request {w : ReqWord} {rest : List HostMove} (hm : s.moves = .request w :: rest) :
    step s = afterRequest (runDecoded (decode w) s) := by
  simp only [step, hm]

/-- The host's moves and the index are replaced by neither unit's operations, so each operation leaves them alone. -/
theorem exec_moves_pc (h : exec i s = .next t) : t.moves = s.moves ∧ t.pc = s.pc := by
  cases hi : isDrv i with
  | true => rw [eq_replaced_of_commutes (withEngOf_self s) (exec_withEngOf hi s s) h]; exact ⟨rfl, rfl⟩
  | false => rw [eq_replaced_of_commutes (withDrvOf_self s) (exec_withDrvOf hi s s) h]; exact ⟨rfl, rfl⟩

theorem runDecoded_moves_pc {w : ReqWord} (h : runDecoded (decode w) s = .next t) :
    t.moves = s.moves ∧ t.pc = s.pc := by
  rcases runDecoded_cases h with ⟨_, _, hexec⟩ | ⟨_, rfl⟩
  · exact exec_moves_pc hexec
  · exact ⟨rfl, rfl⟩

/-- A step runs an operation and retires it, or touches neither ENG nor the trace: a wait, a reserved OP, a host write. -/
theorem step_runs_or_idles (h : step s = .next t) :
    (∃ i u, exec i s = .next u ∧ t = retire u) ∨ (SameEng s t ∧ t.tx = s.tx) := by
  rcases step_cases h with ⟨_, rfl⟩ | ⟨w, _, u, _, hrun, rfl⟩ | ⟨_, _, _, _, _, rfl⟩
  · exact .inr ⟨⟨rfl, rfl, rfl, rfl, rfl, rfl, rfl⟩, rfl⟩
  · rcases runDecoded_cases hrun with ⟨i, _, hexec⟩ | ⟨_, rfl⟩
    · exact .inl ⟨i, u, hexec, rfl⟩
    · exact .inr ⟨⟨rfl, rfl, rfl, rfl, rfl, rfl, rfl⟩, rfl⟩
  · exact .inr ⟨⟨rfl, rfl, rfl, rfl, rfl, rfl, rfl⟩, rfl⟩

/-- Settles O5: a request's step is the decoded operation's outcome with the request retired. -/
theorem stepRunsDecodedRequest : Obligations.StepRunsDecodedRequest := by
  intro s w rest i hm hd
  have hstep : step s = afterRequest (exec i s) := by rw [step_request hm, hd]; rfl
  refine ⟨fun t ht => ?_, fun f hf => ?_, fun r hr => ?_⟩
  · rw [hstep, ht]; rfl
  · rw [hstep, hf]; rfl
  · rw [hstep, hr]; rfl

/-- Settles O8: neither an operation nor a refusal touches the index or the host's moves, and retiring advances both. -/
theorem requestIndexAdvancesByOne : Obligations.RequestIndexAdvancesByOne := by
  intro s t w rest hm h
  rw [step_request hm] at h
  obtain ⟨u, hrun, rfl⟩ := afterRequest_next h
  obtain ⟨hmoves, hpc⟩ := runDecoded_moves_pc hrun
  exact ⟨by rw [retire_pc, hpc], by rw [retire_moves, hmoves, hm]; rfl⟩

/-! ### Who writes what -/

/-- Every operation only appends to the trace (10_state.md R17). -/
theorem Effect.tx_prefix (h : Effect s i t) : s.tx <+: t.tx := by
  cases h with
  | emits | setrot => exact List.prefix_append _ _
  | fillscr => simp only [fillscr_tx, List.append_assoc, List.prefix_append]
  | init => simp only [initialised, emit_tx, fillscr_tx, setrot_tx, List.append_assoc, List.prefix_append]
  | refused | answer | enginit | spin | place | fail | toggle | leave => exact List.prefix_rfl

/-- Settles O44. -/
theorem traceAppendOnly : Obligations.TraceAppendOnly := by
  intro s t h
  rcases step_runs_or_idles h with ⟨i, u, hexec, rfl⟩ | ⟨_, htx⟩
  · obtain ⟨es, hes⟩ := (exec_effect hexec).tx_prefix
    exact ⟨es, hes.symm⟩
  · exact ⟨[], by rw [htx, List.append_nil]⟩

theorem Effect.resp (h : Effect s i t) : ReturnsValue i ∨ t.resp = s.resp := by
  cases h with
  | answer _ _ hi => exact .inl hi
  | refused | emits | setrot | fillscr | init | enginit | spin | place | fail | toggle | leave => exact .inr rfl

/-- Settles O49: of all the effects only an answer writes RESP. -/
theorem respWrittenByFive : Obligations.RespWrittenByFive := by
  intro i s t h hne
  exact (exec_effect h).resp.resolve_right hne

theorem Effect.panel (h : Effect s i t) : (∃ w h r, i = .init w h r)
    ∨ (t.width = s.width ∧ t.height = s.height ∧ t.geom = s.geom ∧ t.drvReady = s.drvReady) := by
  cases h with
  | init width height rotation => exact .inl ⟨width, height, rotation, rfl⟩
  | refused | answer | emits | setrot | fillscr | enginit | spin | place | fail | toggle | leave =>
    exact .inr ⟨rfl, rfl, rfl, rfl⟩

theorem Effect.rotation (h : Effect s i t) : (∃ w h r, i = .init w h r) ∨ (∃ m, i = .setrot m)
    ∨ (t.rot = s.rot ∧ t.xstart = s.xstart ∧ t.ystart = s.ystart) := by
  cases h with
  | init width height rotation => exact .inl ⟨width, height, rotation, rfl⟩
  | setrot m => exact .inr (.inl ⟨m, rfl⟩)
  | refused | answer | emits | fillscr | enginit | spin | place | fail | toggle | leave =>
    exact .inr (.inr ⟨rfl, rfl, rfl⟩)

theorem Effect.rowbuf (h : Effect s i t) :
    (∃ w h r, i = .init w h r) ∨ (∃ c, i = .fillscr c) ∨ t.rowbuf = s.rowbuf := by
  cases h with
  | init width height rotation => exact .inl ⟨width, height, rotation, rfl⟩
  | fillscr color => exact .inr (.inl ⟨color, rfl⟩)
  | refused | answer | emits | setrot | enginit | spin | place | fail | toggle | leave => exact .inr (.inr rfl)

/-- Settles O50. -/
theorem driverRegistersWriters : Obligations.DriverRegistersWriters := by
  intro i s t h
  have heff := exec_effect h
  exact ⟨heff.panel, heff.rotation, heff.rowbuf⟩

/-! ### The needle file -/

/-- What an operation may do to the needle file (10_state.md R20): keep the valid entries, add one after the last, or make
them all invalid; and write no entry but the one at COUNT. -/
abbrev NeedlesAppended (s t : State) : Prop :=
  (t.valid = s.valid ∨ (∃ n, t.valid = s.valid ++ [n]) ∨ t.valid = [])
    ∧ ∀ k : Nat, k ≠ s.count.val → t.needles[k]? = s.needles[k]?

theorem needlesAppended_of_kept (hn : t.needles = s.needles) (hc : t.count = s.count) : NeedlesAppended s t :=
  ⟨.inl (valid_congr hn hc), fun _ _ => by rw [hn]⟩

theorem needlesAppended_of_cleared (hn : t.needles = s.needles) (hc : t.count = 0) : NeedlesAppended s t :=
  ⟨.inr (.inr (valid_of_count_zero hc)), fun _ _ => by rw [hn]⟩

theorem needlesAppended_of_appendNeedle {cand : Int} (hroom : s.count.val < 30)
    (hn : t.needles = (appendNeedle cand s).needles) (hc : t.count = (appendNeedle cand s).count) :
    NeedlesAppended s t := by
  refine ⟨.inr (.inl ⟨slotBits cand, (valid_congr hn hc).trans (appendNeedle_valid cand hroom)⟩), fun k hk => ?_⟩
  rw [hn, appendNeedle_needles, Vector.getElem?_setIfInBounds_ne hk.symm]

theorem Effect.needlesAppended (h : Effect s i t) : NeedlesAppended s t := by
  cases h with
  | place level hplay hedge hfree hroom => exact needlesAppended_of_appendNeedle hroom rfl rfl
  | enginit | leave => exact needlesAppended_of_cleared rfl rfl
  | refused | answer | emits | setrot | fillscr | init | spin | fail | toggle => exact needlesAppended_of_kept rfl rfl

/-- Settles O53. -/
theorem needleFileAppendOnly : Obligations.NeedleFileAppendOnly :=
  fun _ _ _ h => (exec_effect h).needlesAppended

/-! ### Slots -/

theorem wrap_range (i : Int) : 0 ≤ wrap i ∧ wrap i < 24 := by
  rw [wrap_eq]; omega

theorem slotBits_toNat {k : Int} (h0 : 0 ≤ k) (h24 : k < 24) : ((slotBits k).toNat : Int) = k := by
  simp only [slotBits, BitVec.toNat_ofInt]
  omega

theorem slotBits_wrap_lt (k : Int) : (slotBits (wrap k)).toNat < angleSteps := by
  obtain ⟨h0, h24⟩ := wrap_range k
  have hk := slotBits_toNat h0 h24
  simp only [angleSteps]
  omega

/-- Two slots are apart where they are not congruent modulo 24 (41_engine_ops.md R123). -/
theorem one_le_natAbs_wrapDiff_iff (a b : Int) : 1 ≤ (wrapDiff a b).natAbs ↔ (a - b) % 24 ≠ 0 := by
  rw [wrapDiff_eq]
  split <;> omega

/-! ### The invariant of ENG (10_state.md R27) -/

/-- The invariant reads six registers; the button memory is not one of them. -/
theorem engInv_congr (h : SameEng s t) (hs : EngInv s) : EngInv t := by
  obtain ⟨hneedles, hcount, hspin, hgame, hfcnt, hphase, _⟩ := h
  rw [EngInv, valid_congr hneedles.symm hcount.symm, ← hcount, ← hspin, ← hgame, ← hfcnt, ← hphase]
  exact hs

/-- ENGINIT, the exit from FLASH and block reset all leave the engine so. -/
theorem engInv_of_cleared (hcount : s.count = 0) (hspin : s.spin = 0) (hgame : s.gameState = .play) (hfcnt : s.fcnt = 0)
    (hphase : s.fphase = false) : EngInv s := by
  rw [EngInv, valid_of_count_zero hcount, hcount, hspin, hgame]
  exact ⟨by decide, by simp, .nil, by decide, fun _ => ⟨hfcnt, hphase⟩, nofun⟩

theorem engInv_exitFlash (s : State) : EngInv (exitFlash s) := engInv_of_cleared rfl rfl rfl rfl rfl

theorem engInv_sampleButton (level : Bool) (hs : EngInv s) : EngInv (sampleButton level s) := hs

theorem engInv_advanceSpin (hs : EngInv s) : EngInv (advanceSpin s) := by
  obtain ⟨hcap, hslots, hapart, _, hplay, hflash⟩ := hs
  exact ⟨hcap, hslots, hapart, slotBits_wrap_lt _, hplay, hflash⟩

theorem engInv_enterFlash (hs : EngInv s) : EngInv (enterFlash s) := by
  obtain ⟨hcap, hslots, hapart, hspin, _, _⟩ := hs
  exact ⟨hcap, hslots, hapart, hspin, nofun, fun _ => by simp⟩

/-- Below six toggles the flash counter stays within I5. -/
theorem engInv_flashToggle (hflash : s.gameState = .flash) (hmore : (s.fcnt + 1).toNat ≠ 6) (hs : EngInv s) :
    EngInv (flashToggle s) := by
  obtain ⟨hcap, hslots, hapart, hspin, _, hfcnt⟩ := hs
  have hle : (s.fcnt + 1).toNat ≤ 5 := by
    have := hfcnt hflash
    bv_omega
  exact ⟨hcap, hslots, hapart, hspin, fun hplay => absurd (hflash.symm.trans hplay) nofun, fun _ => hle⟩

/-- A candidate that collides with no stored needle is apart from each of them, in either order of the difference. -/
theorem apart_of_not_collision {k : Int} (h0 : 0 ≤ k) (h24 : k < 24) (hfree : collision k s = false) {n : BitVec 5}
    (hn : n ∈ s.valid) : 1 ≤ (wrapDiff (slotInt n) (slotInt (slotBits k))).natAbs := by
  have hne : ¬ (wrapDiff k (slotInt n)).natAbs < 1 := fun hlt => by
    have hc := (collision_iff k s).2 ⟨n, hn, (collidesWith_iff k n).2 hlt⟩
    rw [hfree] at hc
    cases hc
  have hapart := (one_le_natAbs_wrapDiff_iff k (slotInt n)).1 (by omega)
  rw [one_le_natAbs_wrapDiff_iff, show slotInt (slotBits k) = k from slotBits_toNat h0 h24]
  omega

/-- A placement that collides with nothing keeps the needles slots and apart (I2, I3). -/
theorem engInv_appendNeedle (x : Int) (hfree : collision (wrap x) s = false) (hroom : s.count.val < 30)
    (hs : EngInv s) : EngInv (appendNeedle (wrap x) s) := by
  obtain ⟨_, hslots, hapart, hspin, hplay, hflash⟩ := hs
  obtain ⟨h0, h24⟩ := wrap_range x
  have hcap : (appendNeedle (wrap x) s).count.val ≤ needleCapacity := Nat.le_of_lt_succ (Fin.isLt _)
  refine ⟨hcap, ?_, ?_, hspin, hplay, hflash⟩ <;> rw [appendNeedle_valid _ hroom]
  · intro n hn
    rcases List.mem_append.1 hn with hold | hnew
    · exact hslots n hold
    · rw [List.mem_singleton.1 hnew]; exact slotBits_wrap_lt x
  · refine List.pairwise_append.2 ⟨hapart, List.pairwise_singleton _ _, fun n hn m hm => ?_⟩
    rw [List.mem_singleton.1 hm]
    exact apart_of_not_collision h0 h24 hfree hn

/-- Every operation keeps the invariant of ENG. -/
theorem Effect.engInv (h : Effect s i t) (hs : EngInv s) : EngInv t := by
  cases h with
  | spin level => exact engInv_advanceSpin (engInv_sampleButton level hs)
  | place level _ _ hfree hroom =>
    exact engInv_advanceSpin (engInv_appendNeedle _ hfree hroom (engInv_sampleButton level hs))
  | fail level => exact engInv_advanceSpin (engInv_enterFlash (engInv_sampleButton level hs))
  | toggle level hflash hmore =>
    exact engInv_advanceSpin (engInv_flashToggle hflash hmore (engInv_sampleButton level hs))
  | enginit | leave => exact engInv_exitFlash _
  | refused | answer | emits | setrot | fillscr | init => exact engInv_congr ⟨rfl, rfl, rfl, rfl, rfl, rfl, rfl⟩ hs

/-- Settles O55: an operation keeps the invariant, and retiring it or running none leaves ENG alone. -/
theorem engineInvariantKept : Obligations.EngineInvariantKept := by
  intro s t hs h
  rcases step_runs_or_idles h with ⟨i, u, hexec, rfl⟩ | ⟨hsame, _⟩
  · exact (exec_effect hexec).engInv hs
  · exact engInv_congr hsame hs

theorem valid_slots_nodup (hs : EngInv s) : (s.valid.map BitVec.toNat).Nodup := by
  obtain ⟨_, _, hapart, _⟩ := hs
  refine List.pairwise_map.2 (hapart.imp fun {a b} hab heq => ?_)
  rw [one_le_natAbs_wrapDiff_iff, slotInt, slotInt, heq] at hab
  omega

theorem valid_slots_subset (hs : EngInv s) : s.valid.map BitVec.toNat ⊆ List.range 24 := by
  obtain ⟨_, hslots, _⟩ := hs
  intro k hk
  obtain ⟨n, hn, rfl⟩ := List.mem_map.1 hk
  exact List.mem_range.2 (hslots n hn)

/-- Settles O56, by the pigeonhole principle on the slots of the stored needles. -/
theorem atMostTwentyFourNeedles : Obligations.AtMostTwentyFourNeedles := by
  intro s hs
  have hlen := (List.subperm_of_subset (valid_slots_nodup hs) (valid_slots_subset hs)).length_le
  rwa [List.length_map, List.length_range, valid_length] at hlen

/-! ### Fixed states and panels -/

/-- Every configuration has the 240 columns of the square panel (log entry 3). -/
theorem square_panel_supported (c : Cfg) : geometryUnsupported c 240 240 = false := by
  simp [geometryUnsupported, Cfg.ctrlCols, ctrlRows]

theorem rotOf_eq_zero {m : Byte} (h : m.toNat % 4 = 0) : rotOf m = 0 :=
  BitVec.eq_of_toNat_eq (by simpa [rotOf] using h)

theorem geomClass_square_panel (c : Cfg) : c.geomClass 240 240 = .squareRj := if_pos ⟨rfl, rfl⟩

/-- The one offset pair the spec states (40_driver_ops.md R109). -/
theorem offset_square_panel (c : Cfg) : c.offset (c.geomClass 240 240) 240 240 0 = (0, 80) :=
  if_pos ⟨geomClass_square_panel c, rfl, rfl, rfl⟩

/-- Settles O29: every configuration supports the panel, and INIT takes the stated pair. -/
theorem squarePanelOffsetPair : Obligations.SquarePanelOffsetPair := by
  intro rotation s hrot
  have hpair : Config.current.offset (Config.current.geomClass 240 240) 240 240 (rotOf rotation) = (0, 80) := by
    rw [rotOf_eq_zero hrot, offset_square_panel]
  exact ⟨_, exec_init_of_supported rotation s (square_panel_supported Config.current), congrArg Prod.fst hpair,
    congrArg Prod.snd hpair, geomClass_square_panel Config.current, rfl⟩

/-- Settles O36: a ready FILLSCR tests WIDTH before it writes anything. -/
theorem fillscrPastRowBufferStops : Obligations.FillscrPastRowBufferStops := by
  intro color s hready hwidth
  simp only [exec, execFillscr, fillscrOn, whenReady_ready _ hready, hwidth, if_true]

/-- Settles O9. -/
theorem resetRegisterValues : Obligations.ResetRegisterValues :=
  ⟨rfl, rfl, rfl, rfl, rfl, rfl, rfl, rfl, rfl⟩

/-- Settles O54: the engine is cleared, DRV is not ready, both memories list nothing and the trace is empty. -/
theorem resetMeetsInvariants : Obligations.ResetMeetsInvariants :=
  ⟨engInv_of_cleared rfl rfl rfl rfl rfl, nofun, ⟨⟨⟨.nil, nofun⟩, nofun⟩, ⟨⟨.nil, nofun⟩, nofun⟩⟩, .inl rfl⟩

end Sys2Proof.Proofs
end

section
/-! PROOFS. Memory (20_memory.md): the canonical form of the two word memories, who writes them, and the addresses the
block forms on the panel.

The idea: on a canonical memory the entries are exactly the words that read as something (`mem_iff_read`), so the reads
determine the entries. A step writes PIXBUF by one host write and ROWBUF by one fill of at most CTRL_COLS words, and
`CanonicalWithin` is kept by both. -/

namespace Sys2Proof.Proofs

open Sys2Proof.Machine Sys2Proof.Safety

variable {s t : State} {i : Instr} {m : Memory}

/-! ### The canonical form determines the memory -/

/-- With rising addresses an entry is what its address reads as, and every word that reads as something has an entry. -/
theorem mem_iff_read {a : Nat} {v : U16} (hv : v ≠ unlistedWord) (hm : m.Pairwise fun p q => p.1 < q.1) :
    (a, v) ∈ m ↔ Memory.read m a = v := by
  induction m with
  | nil => exact ⟨nofun, fun h => absurd h.symm hv⟩
  | cons p rest ih =>
    obtain ⟨b, w⟩ := p
    obtain ⟨hfirst, hrest⟩ := List.pairwise_cons.1 hm
    rw [Memory.read, List.mem_cons]
    by_cases hba : b = a
    · have hnot : (a, v) ∉ rest := fun hmem => absurd (hfirst _ hmem) (by simp [hba])
      simp [hba, hnot, eq_comm]
    · simp [hba, Ne.symm hba, ih hrest]

/-- The entries of a canonical memory are its words other than what an unlisted address reads as. -/
theorem mem_iff_read_of_wf (hm : Memory.wf m) (p : Nat × U16) :
    p ∈ m ↔ p.2 ≠ unlistedWord ∧ Memory.read m p.1 = p.2 := by
  obtain ⟨hsorted, hlisted⟩ := hm
  exact ⟨fun hp => ⟨hlisted p hp, (mem_iff_read (hlisted p hp) hsorted).1 hp⟩,
    fun ⟨hv, hread⟩ => (mem_iff_read hv hsorted).2 hread⟩

/-- Settles O60: memories that read alike have the same entries, and rising addresses leave one order for them. -/
theorem canonicalMemoriesEqual : Obligations.CanonicalMemoriesEqual := by
  intro m n hm hn hread
  have hirrefl : Std.Irrefl fun p q : Nat × U16 => p.1 < q.1 := ⟨fun _ => Nat.lt_irrefl _⟩
  have hanti : Std.Antisymm fun p q : Nat × U16 => p.1 < q.1 := ⟨fun _ _ h h' => absurd h' (Nat.lt_asymm h)⟩
  refine hm.1.eq_of_mem_iff hn.1 fun p => ?_
  rw [mem_iff_read_of_wf hm, mem_iff_read_of_wf hn, hread]

/-! ### A host write and a wait -/

theorem step_idle (hm : s.moves = []) : step s = .next s := by
  simp only [step, hm]

theorem step_setPixel {a : Nat} {v : U16} {rest : List HostMove} (hm : s.moves = .setPixel a v :: rest) :
    step s = hostSetPixel Config.current a v s := by
  simp only [step, hm]

theorem hostSetPixel_of_lt {c : Cfg} {a : Nat} (v : U16) (s : State) (ha : a < c.pixbufSize) :
    hostSetPixel c a v s = .next { s with pixbuf := Memory.write s.pixbuf a v, moves := s.moves.tail } :=
  if_pos ha

theorem hostSetPixel_of_le {c : Cfg} {a : Nat} (v : U16) (s : State) (ha : c.pixbufSize ≤ a) :
    hostSetPixel c a v s = .fault .pixbufNoWord :=
  if_neg (Nat.not_lt.2 ha)

/-- Settles O6. -/
theorem waitingAndHostWrites : Obligations.WaitingAndHostWrites := by
  refine fun s => ⟨step_idle, fun a v rest hm => ⟨step_setPixel hm, fun c => ⟨fun ha => ?_, ?_⟩⟩, ?_⟩
  · rw [hostSetPixel_of_lt v s ha, hm, List.tail_cons]
  · exact hostSetPixel_of_le v s
  · exact fun hwf a v b => Memory.read_write a b v hwf

/-! ### Who writes the memories -/

/-- No operation writes PIXBUF (20_memory.md R41). -/
theorem Effect.pixbuf (h : Effect s i t) : t.pixbuf = s.pixbuf := by
  cases h with
  | refused | answer | emits | setrot | fillscr | init | enginit | spin | place | fail | toggle | leave => rfl

/-- Settles O48. -/
theorem operationsLeaveBufferAndRequests : Obligations.OperationsLeaveBufferAndRequests :=
  fun _ _ _ h => ⟨(exec_effect h).pixbuf, exec_moves_pc h⟩

/-- The panels INIT takes (60_exceptions.md R149). -/
theorem geometryUnsupported_eq_false_iff {c : Cfg} {width height : U16} :
    geometryUnsupported c width height = false ↔
      (1 ≤ width.toNat ∧ width.toNat ≤ c.ctrlCols) ∧ (1 ≤ height.toNat ∧ height.toNat ≤ ctrlRows) := by
  simp only [geometryUnsupported, Bool.or_eq_false_iff, beq_eq_false_iff_ne, ne_eq, decide_eq_false_iff_not,
    ← BitVec.toNat_inj, BitVec.ofNat_eq_ofNat, BitVec.toNat_ofNat, Nat.zero_mod]
  omega

/-- ROWBUF is left alone, or a row of a panel within the controller's columns is built in it (40_driver_ops.md R106). -/
theorem Effect.rowbuf_filled (h : Effect s i t) :
    t.rowbuf = s.rowbuf ∨ ∃ n v, n ≤ Config.current.ctrlCols ∧ t.rowbuf = Memory.fill s.rowbuf n v := by
  cases h with
  | fillscr color _ hwidth => exact .inr ⟨_, _, hwidth, rfl⟩
  | init width height rotation hpanel =>
    obtain ⟨⟨_, hwidth⟩, _⟩ := geometryUnsupported_eq_false_iff.1 hpanel
    exact .inr ⟨_, _, hwidth, rfl⟩
  | refused | answer | emits | setrot | enginit | spin | place | fail | toggle | leave => exact .inl rfl

/-! ### Every step keeps the form -/

/-- A canonical memory of `size` words: what `MemInv` says of each of the two. -/
abbrev CanonicalWithin (m : Memory) (size : Nat) : Prop := Memory.wf m ∧ Memory.within m size

theorem canonicalWithin_write {a size : Nat} (v : U16) (ha : a < size) (h : CanonicalWithin m size) :
    CanonicalWithin (Memory.write m a v) size :=
  ⟨Memory.write_wf a v h.1, Memory.write_within v ha h.2⟩

theorem canonicalWithin_fill {n size : Nat} (v : U16) (hn : n ≤ size) (h : CanonicalWithin m size) :
    CanonicalWithin (Memory.fill m n v) size :=
  ⟨Memory.fill_wf n v h.1, Memory.fill_within v hn h.2⟩

/-- `MemInv` reads the two memories and no register. -/
theorem memInv_congr {c : Cfg} (hpix : t.pixbuf = s.pixbuf) (hrow : t.rowbuf = s.rowbuf) (hs : MemInv c s) :
    MemInv c t := by
  rw [MemInv, hpix, hrow]
  exact hs

/-- Every operation keeps both memories canonical and inside their sizes. -/
theorem Effect.memInv (h : Effect s i t) (hs : MemInv Config.current s) : MemInv Config.current t := by
  obtain ⟨hpix, hrow⟩ := hs
  rcases h.rowbuf_filled with hkept | ⟨n, v, hn, hfilled⟩
  · exact memInv_congr h.pixbuf hkept ⟨hpix, hrow⟩
  · rw [MemInv, h.pixbuf, hfilled]
    exact ⟨hpix, canonicalWithin_fill v hn hrow⟩

theorem runDecoded_memInv {w : ReqWord} (h : runDecoded (decode w) s = .next t) (hs : MemInv Config.current s) :
    MemInv Config.current t := by
  rcases runDecoded_cases h with ⟨_, _, hexec⟩ | ⟨_, rfl⟩
  · exact (exec_effect hexec).memInv hs
  · exact memInv_congr rfl rfl hs

/-- Settles O59: a request keeps the form, and a host write of a word that PIXBUF has keeps it too. -/
theorem memoryFormKept : Obligations.MemoryFormKept := by
  intro s t hs h
  rcases step_cases h with ⟨_, rfl⟩ | ⟨w, _, u, _, hrun, rfl⟩ | ⟨a, v, _, _, ha, rfl⟩
  · exact hs
  · exact memInv_congr (s := u) rfl rfl (runDecoded_memInv hrun hs)
  · obtain ⟨hpix, hrow⟩ := hs
    exact ⟨canonicalWithin_write v ha hpix, hrow⟩

/-! ### Controller coordinates (20_memory.md R48) -/

/-- Controller columns and rows together fit 16 bits. -/
theorem ctrlCols_add_ctrlRows_lt (c : Cfg) : c.ctrlCols + ctrlRows < 2 ^ 16 := by
  have hextra := c.extraCols.isLt
  simp only [Cfg.ctrlCols, ctrlRows]
  omega

/-- Whichever pair OFFSET takes, the stated one, the configured one or (0, 0), it keeps the bound. -/
theorem offset_fits (c : Cfg) (g : GeomClass) (width height : U16) (r : BitVec 2) :
    c.offsetFits width height (c.offset g width height r) := by
  unfold Cfg.offset
  split
  next hsquare =>
    obtain ⟨_, rfl, rfl, _⟩ := hsquare
    intro _ _
    simp [ctrlRows]
  next =>
    split
    next hfits => exact hfits
    next =>
      intro ⟨_, hwidth⟩ ⟨_, hheight⟩
      exact ⟨Nat.le_add_right_of_le hwidth, Nat.le_add_left_of_le hheight⟩

/-- Where the whole side of a panel keeps the bound of R48, so does each coordinate on it, and its sum is exact. -/
theorem toNat_add_offset_of_lt {c : Cfg} {x side start : U16} (hx : x.toNat < side.toNat)
    (hside : side.toNat + start.toNat ≤ c.ctrlCols + ctrlRows) :
    x.toNat + start.toNat < c.ctrlCols + ctrlRows ∧ (x + start).toNat = x.toNat + start.toNat := by
  have hbound := ctrlCols_add_ctrlRows_lt c
  have hsum : x.toNat + start.toNat < c.ctrlCols + ctrlRows := by omega
  exact ⟨hsum, BitVec.toNat_add_of_lt (hsum.trans hbound)⟩

/-- Settles O41: the pair a ready DRV holds is OFFSET's, which keeps the bound of R48 on both sides of the panel. -/
theorem inPanelSumsDoNotWrap : Obligations.InPanelSumsDoNotWrap := by
  intro x y s hs hready hx hy
  obtain ⟨hwidth, hheight, _, hpair, _⟩ := hs hready
  have hfits : Config.current.offsetFits s.width s.height (s.xstart, s.ystart) := hpair ▸ offset_fits _ _ _ _ _
  obtain ⟨hcols, hrows⟩ := hfits hwidth hheight
  exact ⟨ctrlCols_add_ctrlRows_lt _, toNat_add_offset_of_lt hx hcols, toNat_add_offset_of_lt hy hrows⟩

end Sys2Proof.Proofs
end

section
/-! PROOFS. The request encoding (30_encoding.md R60 to R63).

The idea: a word is the packing of its seven fields, so both directions are facts about one field at a time: an operand of
the type R62 gives it is read back from its field, and masking a word masks each field. `Decoded w i` is the inversion of
`decode`. -/

namespace Sys2Proof.Proofs

/-! ### Operands in their fields (30_encoding.md R62) -/

theorem toS16_ofInt {i : Int} (hi : IsS16 i) : toS16 (BitVec.ofInt 16 i) = i :=
  BitVec.toInt_ofInt_eq_self (by decide) hi.1 hi.2

theorem ofInt_toS16 (v : U16) : BitVec.ofInt 16 (toS16 v) = v := BitVec.ofInt_toInt

theorem isS16_toS16 (v : U16) : IsS16 (toS16 v) := ⟨BitVec.le_toInt v, BitVec.toInt_lt⟩

theorem levelBit_ofNat (level : Bool) : (BitVec.ofNat 16 level.toNat).getLsbD 0 = level := by
  cases level <;> rfl

theorem low5_ofNat {k : Nat} (hk : IsU5 k) : ((BitVec.ofNat 16 k).extractLsb' 0 5).toNat = k := by
  simp only [BitVec.extractLsb'_toNat, BitVec.toNat_ofNat]
  omega

/-- Decoding reads back every operand from the field `encode` puts it in, as far as it has the type of R62. -/
theorem decode_encode {i : Instr} (hi : i.wellFormed = true) : decode (encode i) = .ok i := by
  cases i with
  | init | setrot | setwin | fillscr | drawpix | pack565 | enginit => simp [encode, decode]
  | fillwin => simpa [encode, decode, Instr.wellFormed] using hi
  | frame level => simp [encode, decode, -BitVec.getLsbD_eq_getElem, levelBit_ofNat]
  | wrap n =>
    have hn : IsS16 n := of_decide_eq_true hi
    simp [encode, decode, toS16_ofInt hn]
  | wrapdiff a b =>
    obtain ⟨ha, hb⟩ : IsS16 a ∧ IsS16 b := by simpa [Instr.wellFormed] using hi
    simp [encode, decode, toS16_ofInt ha, toS16_ofInt hb]
  | collide c =>
    have hc : IsS16 c := of_decide_eq_true hi
    simp [encode, decode, toS16_ofInt hc]
  | rpos k =>
    have hk : IsU5 k := of_decide_eq_true hi
    simp [encode, decode, low5_ofNat hk]

/-- Settles O1. -/
theorem decodeEncodeRoundTrip : Obligations.DecodeEncodeRoundTrip := fun _ => decode_encode

theorem decode_of_encode_eq {w : ReqWord} {i : Instr} (hi : i.wellFormed = true) (hw : encode i = w) :
    decode w = .ok i :=
  hw ▸ decode_encode hi

/-- Settles O3: each of the seven words is the word of its request. -/
theorem tableWordsDecode : Obligations.TableWordsDecode :=
  ⟨decode_of_encode_eq (i := .init 240 240 0) rfl (by decide),
   decode_of_encode_eq (i := .setrot 3) rfl (by decide),
   decode_of_encode_eq (i := .fillwin 5 6 7 8 0x100 9) rfl (by decide),
   decode_of_encode_eq (i := .drawpix 239 239 0xF800) rfl (by decide),
   decode_of_encode_eq (i := .wrap (-1)) rfl (by decide),
   decode_of_encode_eq (i := .collide (-11)) rfl (by decide),
   decode_of_encode_eq (i := .rpos 1) rfl (by decide)⟩

/-! ### What a word decodes to, and the bits that say so (30_encoding.md R61, R62) -/

/-- What the decoder reads from a word, by its OP: the inversion of `decode`. -/
inductive Decoded (w : ReqWord) : Instr → Prop
  | init (hop : fieldOp w = 0x01) : Decoded w (.init (fieldA w) (fieldB w) (lowByte (fieldC w)))
  | setrot (hop : fieldOp w = 0x02) : Decoded w (.setrot (lowByte (fieldA w)))
  | setwin (hop : fieldOp w = 0x03) : Decoded w (.setwin (fieldA w) (fieldB w) (fieldC w) (fieldD w))
  | fillwin (hop : fieldOp w = 0x04) :
      Decoded w (.fillwin (fieldA w) (fieldB w) (fieldC w) (fieldD w) (fieldP w).toNat (fieldN w).toNat)
  | fillscr (hop : fieldOp w = 0x05) : Decoded w (.fillscr (fieldC w))
  | drawpix (hop : fieldOp w = 0x06) : Decoded w (.drawpix (fieldA w) (fieldB w) (fieldC w))
  | pack565 (hop : fieldOp w = 0x07) :
      Decoded w (.pack565 (lowByte (fieldA w)) (lowByte (fieldB w)) (lowByte (fieldC w)))
  | enginit (hop : fieldOp w = 0x10) : Decoded w .enginit
  | frame (hop : fieldOp w = 0x11) : Decoded w (.frame ((fieldA w).getLsbD 0))
  | wrap (hop : fieldOp w = 0x12) : Decoded w (.wrap (toS16 (fieldA w)))
  | wrapdiff (hop : fieldOp w = 0x13) : Decoded w (.wrapdiff (toS16 (fieldA w)) (toS16 (fieldB w)))
  | collide (hop : fieldOp w = 0x14) : Decoded w (.collide (toS16 (fieldA w)))
  | rpos (hop : fieldOp w = 0x15) : Decoded w (.rpos ((fieldA w).extractLsb' 0 5).toNat)

variable {w : ReqWord} {i : Instr}

theorem decoded_of_decode (h : decode w = .ok i) : Decoded w i := by
  unfold decode at h
  split at h <;> cases h <;> next hop => constructor; exact BitVec.eq_of_toNat_eq hop

theorem Decoded.wellFormed (h : Decoded w i) : i.wellFormed = true := by
  cases h with
  | init | setrot | setwin | fillscr | drawpix | pack565 | enginit | frame => rfl
  | fillwin => exact Bool.and_eq_true_iff.2 ⟨decide_eq_true (BitVec.isLt _), decide_eq_true (BitVec.isLt _)⟩
  | wrap | collide => exact decide_eq_true (isS16_toS16 _)
  | wrapdiff => exact Bool.and_eq_true_iff.2 ⟨decide_eq_true (isS16_toS16 _), decide_eq_true (isS16_toS16 _)⟩
  | rpos => exact decide_eq_true (BitVec.isLt _)

@[simp] theorem and_fieldMask (v : U16) : v &&& 65535#16 = v := BitVec.and_allOnes

@[simp] theorem and_wordMask (v : BitVec 32) : v &&& 4294967295#32 = v := BitVec.and_allOnes

@[simp] theorem and_byteMask (v : U16) : v &&& 255#16 = byteField (lowByte v) := by
  refine BitVec.eq_of_toNat_eq ((Nat.and_two_pow_sub_one_eq_mod v.toNat 8).trans ?_)
  simp [byteField, lowByte]
  omega

@[simp] theorem and_levelMask (v : U16) : v &&& 1#16 = BitVec.ofNat 16 v[0].toNat := by
  refine BitVec.and_one_eq_setWidth_ofBool_getLsbD.trans ?_
  rw [BitVec.getLsbD_eq_getElem (by decide)]
  cases v[0] <;> rfl

@[simp] theorem and_low5Mask (v : U16) : v &&& 31#16 = BitVec.ofNat 16 (v.toNat % 32) := by
  refine BitVec.eq_of_toNat_eq ((Nat.and_two_pow_sub_one_eq_mod v.toNat 5).trans ?_)
  simp
  omega

/-- Masking a word masks its fields (30_encoding.md R60). -/
theorem and_packFields (w : ReqWord) (op : Byte) (a b c d : U16) (n p : BitVec 32) :
    w &&& packFields op a b c d n p =
      packFields (fieldOp w &&& op) (fieldA w &&& a) (fieldB w &&& b) (fieldC w &&& c) (fieldD w &&& d)
        (fieldN w &&& n) (fieldP w &&& p) := by
  conv_lhs => rw [← packFields_fields w]
  refine BitVec.eq_of_getLsbD_eq fun i _ => ?_
  simp only [BitVec.getLsbD_and, packFields_bit]
  grind

/-- `encode` writes the operands of R61 where the mask keeps them, and 0 where it clears. -/
theorem Decoded.encode_eq (h : Decoded w i) : encode i = w &&& usedBits (fieldOp w) := by
  cases h with
  | wrap hop | wrapdiff hop | collide hop => simp [encode, usedBits, hop, and_packFields, ofInt_toS16]
  | init hop | setrot hop | setwin hop | fillwin hop | fillscr hop | drawpix hop | pack565 hop | enginit hop | frame hop
  | rpos hop => simp [encode, usedBits, hop, and_packFields]

/-- Settles O2: the mask keeps each operand's own bits of its field, and each operand read back fills just those. -/
theorem decodedWordKeepsUsedBits : Obligations.DecodedWordKeepsUsedBits :=
  fun _ _ h => ⟨(decoded_of_decode h).wellFormed, (decoded_of_decode h).encode_eq⟩

end Sys2Proof.Proofs
end

section
/-! PROOFS. The transport trace (30_encoding.md R64, R70 to R74): its command bytes, its pin-level expansion, its streams, and
that it stays made of whole frames.

The idea: a stream is a list of pixel bursts whose data bytes are the colours in order, however they are cut. So two ways of
sending one window agree on the wire when their data bytes do. For the frame protocol each event has one equation of `framing`,
by which `WholeFrames` of each event list the block emits is a computation; every update of the trace then keeps `TraceInv`. -/

namespace Sys2Proof.Proofs

open Sys2Proof.Machine Sys2Proof.Safety

/-! ### Command bytes (30_encoding.md R74) -/

theorem command_mem_all (k : Command) : k ∈ Command.all := by cases k <;> decide

theorem commandIndex_injective : Function.Injective Command.index := by
  have hinv : ∀ k : Command, Command.all[k.index.toNat]? = some k := fun k => by cases k <;> rfl
  intro j k h
  exact Option.some_injective _ (by rw [← hinv j, ← hinv k, h])

theorem cmd_injective (c : Cfg) : Function.Injective c.cmd := by
  intro j k h
  unfold Cfg.cmd at h
  split at h
  · next hnodup => exact List.inj_on_of_nodup_map hnodup (command_mem_all j) (command_mem_all k) h
  · exact commandIndex_injective h

/-- Settles O42. -/
theorem commandBytesDistinct : Obligations.CommandBytesDistinct := by
  refine fun c => ⟨cmd_injective c, fun hopen k => if_pos ?_⟩
  exact List.Nodup.map hopen (by decide)

theorem commandOf_cmd (c : Cfg) (k : Command) : commandOf c (c.cmd k) = some k := by
  have hbyte : (fun j => c.cmd j == c.cmd k) = fun j => j == k :=
    funext fun j => by rw [Bool.eq_iff_iff, beq_iff_eq, beq_iff_eq, (cmd_injective c).eq_iff]
  rw [commandOf, hbyte]
  cases k <;> rfl

/-! ### Sends (30_encoding.md R71) -/

/-- Every send of these primitives is followed at once by the wait, and that by the release of chip-select. -/
def SendsAwaited (ps : List Primitive) : Prop :=
  ∀ (k : Nat) (bs : List Byte), ps[k]? = some (.send bs) → ps[k + 1]? = some .wait ∧ ps[k + 2]? = some (.csPin false)

theorem getElem?_append_of_some {α : Type} {xs : List α} {k : Nat} {x : α} (ys : List α) (h : xs[k]? = some x) :
    (xs ++ ys)[k]? = some x := by
  obtain ⟨hk, _⟩ := List.getElem?_eq_some_iff.1 h
  rw [List.getElem?_append_left hk, h]

theorem SendsAwaited.append {ps qs : List Primitive} (hp : SendsAwaited ps) (hq : SendsAwaited qs) :
    SendsAwaited (ps ++ qs) := by
  intro k bs h
  by_cases hk : k < ps.length
  · rw [List.getElem?_append_left hk] at h
    obtain ⟨hwait, hrelease⟩ := hp k bs h
    exact ⟨getElem?_append_of_some qs hwait, getElem?_append_of_some qs hrelease⟩
  · have hk : ps.length ≤ k := Nat.le_of_not_lt hk
    rw [List.getElem?_append_right hk] at h
    rw [List.getElem?_append_right (by omega), List.getElem?_append_right (by omega), Nat.sub_add_comm hk,
      Nat.sub_add_comm hk]
    exact hq _ bs h

theorem sendsAwaited_sendPrimitives (command : Bool) (bytes : List Byte) :
    SendsAwaited (sendPrimitives command bytes) := by
  intro k bs h
  match k with
  | 2 => exact ⟨rfl, rfl⟩
  | 0 | 1 | 3 | 4 | k + 5 => simp [sendPrimitives] at h

theorem sendsAwaited_singleton {p : Primitive} (hp : ∀ bs, p ≠ .send bs) : SendsAwaited [p] := by
  intro k bs h
  exact absurd (List.mem_singleton.1 (List.mem_of_getElem? h)).symm (hp bs)

theorem sendsAwaited_expandEvent (e : Event) : SendsAwaited (expandEvent e) := by
  cases e with
  | cmd | data => exact sendsAwaited_sendPrimitives _ _
  | delay | rst | bl => exact sendsAwaited_singleton fun _ => Primitive.noConfusion

/-- Settles O43. -/
theorem everySendIsWaitedFor : Obligations.EverySendIsWaitedFor := by
  intro tx
  show SendsAwaited (expandTrace tx)
  induction tx with
  | nil => intro k bs h; cases h
  | cons e tx ih => exact (sendsAwaited_expandEvent e).append ih

/-! ### Streams (40_driver_ops.md R104) -/

variable {c : Cfg} {s t : State} {src src' : Nat → U16} {count : Nat}

theorem dataBytes_append (es es' : List Event) : dataBytes (es ++ es') = dataBytes es ++ dataBytes es' :=
  List.flatMap_append

theorem dataBytes_data_cons (bs : List Byte) (es : List Event) :
    dataBytes (.data bs :: es) = bs ++ dataBytes es := rfl

theorem burstBytes_eq (src : Nat → U16) (i n : Nat) :
    burstBytes src i n = (List.range' i n).flatMap fun j => be16 (src j) := by
  rw [List.range'_eq_map_range, List.flatMap_map, burstBytes]

/-- The bytes of a stream are the colours in order, however they are cut into bursts. -/
theorem dataBytes_streamFrom {fuel i : Nat} (hfuel : count ≤ i + fuel) :
    dataBytes (streamFrom src count fuel i) = (List.range' i (count - i)).flatMap fun j => be16 (src j) := by
  induction fuel generalizing i with
  | zero => rw [Nat.sub_eq_zero_of_le (m := i) hfuel]; rfl
  | succ fuel ih =>
    by_cases hi : i < count
    · have hsplit : count - i = min 60 (count - i) + (count - (i + min 60 (count - i))) := by omega
      rw [streamFrom_burst src fuel hi, dataBytes_data_cons, ih (by omega), burstBytes_eq, ← List.flatMap_append,
        List.range'_append_1, ← hsplit]
    · rw [streamFrom_end src (fuel + 1) (Nat.le_of_not_lt hi), Nat.sub_eq_zero_of_le (Nat.le_of_not_lt hi)]
      rfl

theorem dataBytes_stream (src : Nat → U16) (count : Nat) :
    dataBytes (stream src count) = (List.range count).flatMap fun i => be16 (src i) := by
  rw [stream, dataBytes_streamFrom (by omega), Nat.sub_zero, List.range_eq_range']

/-- A burst of pixels (30_encoding.md R70). -/
def IsPixelBurst (e : Event) : Prop := ∃ bs, e = .data bs ∧ pixelBurst bs = true

theorem isPixelBurst_data {bs : List Byte} {n : Nat} (hlen : bs.length = 2 * n) (hpos : 0 < n) (hmax : n ≤ 60) :
    IsPixelBurst (.data bs) := by
  refine ⟨bs, rfl, ?_⟩
  simp only [pixelBurst, burstMaxBytes, hlen, Bool.and_eq_true, beq_iff_eq, decide_eq_true_eq]
  omega

theorem isPixelBurst_of_mem_streamFrom {fuel i : Nat} {e : Event} (he : e ∈ streamFrom src count fuel i) :
    IsPixelBurst e := by
  induction fuel generalizing i with
  | zero => cases he
  | succ fuel ih =>
    by_cases hi : i < count
    · rw [streamFrom_burst src fuel hi] at he
      rcases List.mem_cons.1 he with rfl | he
      · exact isPixelBurst_data (burstBytes_length ..) (by omega) (by omega)
      · exact ih he
    · rw [streamFrom_end src (fuel + 1) (Nat.le_of_not_lt hi)] at he
      cases he

theorem isPixelBurst_of_mem_stream {e : Event} (he : e ∈ stream src count) : IsPixelBurst e :=
  isPixelBurst_of_mem_streamFrom he

theorem isPixelBurst_of_mem_rows {rows : Nat} {e : Event} (he : e ∈ (List.replicate rows (stream src count)).flatten) :
    IsPixelBurst e := by
  obtain ⟨row, hrow, he⟩ := List.mem_flatten.1 he
  rw [List.eq_of_mem_replicate hrow] at he
  exact isPixelBurst_of_mem_stream he

/-- A stream reads its source at the pixels it sends and nowhere else. -/
theorem burstBytes_congr {i n : Nat} (h : ∀ j, j < n → src (i + j) = src' (i + j)) :
    burstBytes src i n = burstBytes src' i n :=
  List.flatMap_congr fun j hj => by rw [h j (List.mem_range.1 hj)]

theorem streamFrom_congr (h : ∀ i, i < count → src i = src' i) (fuel i : Nat) :
    streamFrom src count fuel i = streamFrom src' count fuel i := by
  induction fuel generalizing i with
  | zero => rfl
  | succ fuel ih =>
    by_cases hi : i < count
    · rw [streamFrom_burst src fuel hi, streamFrom_burst src' fuel hi, ih,
        burstBytes_congr fun j hj => h _ (by omega)]
    · rw [streamFrom_end src _ (Nat.le_of_not_lt hi), streamFrom_end src' _ (Nat.le_of_not_lt hi)]

theorem stream_congr (h : ∀ i, i < count → src i = src' i) : stream src count = stream src' count :=
  streamFrom_congr h count 0

/-- A stream of one colour, whole bursts long, is one burst over and over. -/
theorem streamFrom_const (v : U16) {q fuel i : Nat} (hfuel : q ≤ fuel) :
    streamFrom (fun _ => v) (i + q * 60) fuel i = List.replicate q (.data (burstBytes (fun _ => v) 0 60)) := by
  induction q generalizing fuel i with
  | zero => exact streamFrom_end _ _ (by omega)
  | succ q ih =>
    obtain ⟨fuel, rfl⟩ := Nat.exists_eq_add_of_lt hfuel
    have hmin : min 60 (i + (q + 1) * 60 - i) = 60 := by omega
    have hcount : i + (q + 1) * 60 = i + 60 + q * 60 := by omega
    rw [streamFrom_burst _ _ (by omega), hmin, hcount, ih (by omega)]
    rfl

theorem stream_const (v : U16) (q : Nat) :
    stream (fun _ => v) (q * 60) = List.replicate q (.data (burstBytes (fun _ => v) 0 60)) := by
  have h := streamFrom_const v (q := q) (fuel := q * 60) (i := 0) (by omega)
  rwa [Nat.zero_add] at h

/-! ### The same window sent two ways (30_encoding.md R64) -/

theorem wire_append (es es' : List Event) : wire (es ++ es') = wire es ++ wire es' := List.flatMap_append

theorem wire_of_pixelBursts {es : List Event} (h : ∀ e ∈ es, IsPixelBurst e) :
    wire es = (dataBytes es).map fun b => (.data, b) := by
  rw [dataBytes, List.map_flatMap]
  refine List.flatMap_congr fun e he => ?_
  obtain ⟨bs, rfl, _⟩ := h e he
  rfl

theorem dataBytes_stream_const (v : U16) (count : Nat) :
    dataBytes (stream (fun _ => v) count) = (List.replicate count (be16 v)).flatten := by
  rw [dataBytes_stream, List.flatMap_def, List.map_const', List.length_range]

/-- Row by row or all at once, the same bytes. -/
theorem dataBytes_rows_const (v : U16) (rows count : Nat) :
    dataBytes (List.replicate rows (stream (fun _ => v) count)).flatten
      = dataBytes (stream (fun _ => v) (count * rows)) := by
  induction rows with
  | zero => rfl
  | succ rows ih =>
    rw [List.replicate_succ, List.flatten_cons, dataBytes_append, ih, Nat.mul_succ, Nat.add_comm (count * rows)]
    simp only [dataBytes_stream_const, List.replicate_add, List.flatten_append]

theorem rows_const_of_mod_eq_zero (v : U16) (rows : Nat) {count : Nat} (h : count % 60 = 0) :
    (List.replicate rows (stream (fun _ => v) count)).flatten = stream (fun _ => v) (count * rows) := by
  obtain ⟨q, rfl⟩ := Nat.dvd_of_mod_eq_zero h
  rw [Nat.mul_comm 60 q, show q * 60 * rows = rows * q * 60 by ring, stream_const, stream_const,
    List.flatten_replicate_replicate]

theorem stream_one (src : Nat → U16) : stream src 1 = [.data (be16 (src 0))] := rfl

theorem fillscrOn_of_ready (color : U16) (hready : s.drvReady = true) (hwidth : s.width.toNat ≤ c.ctrlCols) :
    fillscrOn c color s = .next (fillscr c color s) := by
  rw [fillscrOn, whenReady_ready _ hready, if_neg (Nat.not_lt.2 hwidth)]

theorem fillwinOn_of_ready {p n : Nat} (x0 y0 x1 y1 : U16) (hready : s.drvReady = true) (hfits : p + n ≤ c.pixbufSize) :
    fillwinOn c x0 y0 x1 y1 p n s
      = .next (emit (stream (fun i => Memory.read s.pixbuf (p + i)) n) (setwin c x0 y0 x1 y1 s)) := by
  rw [fillwinOn, whenReady_ready _ hready, if_neg (Nat.not_lt.2 hfits)]
  rfl

/-- Settles O39: a stream of one word is one burst of that word. -/
theorem drawpixIsOnePixelFillwin : Obligations.DrawpixIsOnePixelFillwin := by
  intro c x y color p s hx hy hp hcolor
  have hin : ¬ (x ≥ s.width ∨ y ≥ s.height) := by
    simp only [ge_iff_le, BitVec.le_def]
    omega
  have hburst : stream (fun i => Memory.read s.pixbuf (p + i)) 1 = [.data (be16 color)] := by
    rw [stream_one, Nat.add_zero, hcolor]
  cases hready : s.drvReady with
  | true =>
    rw [fillwinOn_of_ready x y x y hready hp, drawpixOn, whenReady_ready _ hready, if_neg hin, hburst]
  | false => simp only [drawpixOn, fillwinOn, whenReady_notReady _ hready]

/-- ROWBUF filled with a colour streams that colour (40_driver_ops.md R106). -/
theorem stream_filled {m : Memory} (color : U16) (n : Nat) (hm : Memory.wf m) :
    stream (Memory.read (Memory.fill m n color)) n = stream (fun _ => color) n :=
  stream_congr fun i hi => by rw [Memory.read_fill n i color hm, if_pos hi]

/-- Settles O40: both send the same window, then one colour, row by row or all at once. -/
theorem fillscrIsFullPanelFillwin : Obligations.FillscrIsFullPanelFillwin := by
  intro c color p s hready hwf hwidth hfits hcolor
  refine ⟨_, _, fillscrOn_of_ready color hready hwidth, fillwinOn_of_ready _ _ _ _ hready hfits, ?_⟩
  rw [fillscr_tx, emit_tx, setwin_tx, stream_filled color _ hwf, stream_congr hcolor]
  constructor
  · rw [wire_append, wire_append _ (stream _ _), wire_of_pixelBursts fun _ => isPixelBurst_of_mem_rows,
      wire_of_pixelBursts fun _ => isPixelBurst_of_mem_stream, dataBytes_rows_const]
  · intro hwhole
    rw [rows_const_of_mod_eq_zero color _ hwhole]

/-! ### Frames (30_encoding.md R74, 70_reset_and_hazards.md R173, R175) -/

theorem framing_append (c : Cfg) (a : Awaited) (es es' : List Event) :
    framing c a (es ++ es') = (framing c a es).bind fun b => framing c b es' := by
  induction es generalizing a with
  | nil => rfl
  | cons e es ih =>
    simp only [List.cons_append, framing]
    cases frameStep c a e with
    | none => rfl
    | some b => exact ih b

variable {a : Awaited} {es es' : List Event}

@[simp] theorem owesOperands_nothing : Awaited.owesOperands .nothing = false := by decide

@[simp] theorem owesOperands_pixels : Awaited.owesOperands .pixels = false := by decide

theorem framing_cmd (ha : a.owesOperands = false) (k : Command) :
    framing c a (.cmd (c.cmd k) :: es) = framing c (awaitedAfter k) es := by
  simp [framing, frameStep, ha, commandOf_cmd]

theorem framing_operands {n : Nat} {bs : List Byte} (hlen : bs.length = n) :
    framing c (.operands n) (.data bs :: es) = framing c .nothing es := by
  simp [framing, frameStep, dataStep, hlen]

theorem framing_delay (ha : a.owesOperands = false) (ms : Nat) : framing c a (.delay ms :: es) = framing c a es := by
  simp [framing, frameStep, ha]

theorem framing_rst (ha : a.owesOperands = false) (on : Bool) : framing c a (.rst on :: es) = framing c a es := by
  simp [framing, frameStep, ha]

theorem framing_bl (ha : a.owesOperands = false) (on : Bool) : framing c a (.bl on :: es) = framing c a es := by
  simp [framing, frameStep, ha]

theorem framing_pixelBursts (h : ∀ e ∈ es, IsPixelBurst e) : framing c .pixels es = some .pixels := by
  induction es with
  | nil => rfl
  | cons e es ih =>
    obtain ⟨bs, rfl, hbs⟩ := h e List.mem_cons_self
    simpa [framing, frameStep, dataStep, hbs] using ih fun e he => h e (List.mem_cons_of_mem _ he)

theorem framing_nil (c : Cfg) (a : Awaited) : framing c a [] = some a := rfl

/-- The window primes pixel data (70_reset_and_hazards.md R175). -/
theorem framing_setwinEvents (ha : a.owesOperands = false) (x0 y0 x1 y1 : U16) (s : State) :
    framing c a (setwinEvents c x0 y0 x1 y1 s) = some .pixels := by
  simp [setwinEvents, framing_cmd, framing_operands, framing_nil, ha, awaitedAfter, be16]

theorem framing_bringUpEvents (ha : a.owesOperands = false) : framing c a (bringUpEvents c) = some .nothing := by
  simp [bringUpEvents, framing_cmd, framing_operands, framing_delay, framing_rst, framing_nil, ha, awaitedAfter]

/-- Events made of whole frames: where no operand byte is owed before them, they keep the protocol and none is owed after. -/
def WholeFrames (c : Cfg) (es : List Event) : Prop :=
  ∀ a : Awaited, a.owesOperands = false → ∃ b, b.owesOperands = false ∧ framing c a es = some b

theorem wholeFrames_bringUpEvents : WholeFrames c (bringUpEvents c) :=
  fun _ ha => ⟨.nothing, rfl, framing_bringUpEvents ha⟩

theorem wholeFrames_madctl (v : Byte) : WholeFrames c [.cmd (c.cmd .madctl), .data [v]] :=
  fun _ ha => ⟨.nothing, rfl, by simp [framing_cmd, framing_operands, framing_nil, ha, awaitedAfter]⟩

theorem wholeFrames_bl (on : Bool) : WholeFrames c [.bl on] :=
  fun a ha => ⟨a, ha, by rw [framing_bl ha, framing_nil]⟩

theorem wholeFrames_setwinEvents (x0 y0 x1 y1 : U16) (s : State) : WholeFrames c (setwinEvents c x0 y0 x1 y1 s) :=
  fun _ ha => ⟨.pixels, rfl, framing_setwinEvents ha x0 y0 x1 y1 s⟩

theorem wholeFrames_window_pixels (x0 y0 x1 y1 : U16) (s : State) (h : ∀ e ∈ es, IsPixelBurst e) :
    WholeFrames c (setwinEvents c x0 y0 x1 y1 s ++ es) :=
  fun _ ha => ⟨.pixels, rfl, by
    rw [framing_append, framing_setwinEvents ha, Option.bind_some, framing_pixelBursts h]⟩

/-! ### The trace invariant -/

/-- The trace invariant, as one state of the protocol. -/
theorem traceInv_iff : TraceInv c s ↔ ∃ b, b.owesOperands = false ∧ framing c .nothing s.tx = some b := by
  constructor
  · rintro (h | h)
    · exact ⟨.nothing, rfl, h⟩
    · exact ⟨.pixels, rfl, h⟩
  · rintro ⟨_ | n | _, hb, h⟩
    · exact .inl h
    · cases hb
    · exact .inr h

theorem traceInv_congr (htx : t.tx = s.tx) (hs : TraceInv c s) : TraceInv c t := by
  rwa [TraceInv, htx]

theorem traceInv_emit (hes : WholeFrames c es) (hs : TraceInv c s) : TraceInv c (emit es s) := by
  obtain ⟨b, hb, hframes⟩ := traceInv_iff.1 hs
  obtain ⟨b', hb', hes⟩ := hes b hb
  exact traceInv_iff.2 ⟨b', hb', by rw [emit_tx, framing_append, hframes, Option.bind_some, hes]⟩

theorem traceInv_setrot (m : Byte) (hs : TraceInv c s) : TraceInv c (setrot c m s) :=
  traceInv_congr rfl (traceInv_emit (wholeFrames_madctl (c.madctlData (rotOf m))) hs)

/-- A window and its pixels, appended one after the other. -/
theorem traceInv_setwin_pixels (x0 y0 x1 y1 : U16) (h : ∀ e ∈ es, IsPixelBurst e) (hs : TraceInv c s) :
    TraceInv c (emit es (setwin c x0 y0 x1 y1 s)) := by
  rw [setwin, emit_emit]
  exact traceInv_emit (wholeFrames_window_pixels x0 y0 x1 y1 s h) hs

theorem traceInv_fillscr (color : U16) (hs : TraceInv c s) : TraceInv c (fillscr c color s) :=
  traceInv_setwin_pixels 0 0 _ _ (fun _ => isPixelBurst_of_mem_rows) (traceInv_congr rfl hs)

theorem traceInv_initialised (width height : U16) (rotation : Byte) (hs : TraceInv Config.current s) :
    TraceInv Config.current (initialised width height rotation s) := by
  have hbringUp := traceInv_emit wholeFrames_bringUpEvents (traceInv_congr
    (t := { s with width := width, height := height, geom := Config.current.geomClass width height }) rfl hs)
  exact traceInv_congr rfl
    (traceInv_emit (wholeFrames_bl true) (traceInv_fillscr Config.current.bgColor (traceInv_setrot rotation hbringUp)))

/-- Every operation keeps the trace made of whole frames. -/
theorem exec_traceInv {i : Instr} (h : exec i s = .next t) (hs : TraceInv Config.current s) :
    TraceInv Config.current t := by
  have hkept {u : State} (htx : u.tx = s.tx) : TraceInv Config.current u := traceInv_congr htx hs
  cases i with
  | init width height rotation =>
    rcases execInit_cases h with ⟨_, rfl⟩ | ⟨_, _, rfl, rfl⟩
    · exact hkept rfl
    · exact traceInv_initialised width height rotation hs
  | setrot m =>
    rcases execSetrot_cases h with ⟨_, rfl⟩ | ⟨_, rfl⟩
    · exact traceInv_setrot m hs
    · exact hkept rfl
  | setwin x0 y0 x1 y1 =>
    rcases execSetwin_cases h with ⟨_, rfl⟩ | ⟨_, rfl⟩
    · exact traceInv_emit (wholeFrames_setwinEvents x0 y0 x1 y1 s) hs
    · exact hkept rfl
  | fillwin x0 y0 x1 y1 buffer count =>
    rcases execFillwin_cases h with ⟨_, _, rfl⟩ | ⟨_, _, rfl⟩ | ⟨_, rfl⟩
    · exact hkept rfl
    · exact traceInv_setwin_pixels x0 y0 x1 y1 (fun _ => isPixelBurst_of_mem_stream) hs
    · exact hkept rfl
  | fillscr color =>
    rcases execFillscr_cases h with ⟨_, _, rfl⟩ | ⟨_, rfl⟩
    · exact traceInv_fillscr color hs
    · exact hkept rfl
  | drawpix x y color =>
    rcases execDrawpix_cases h with ⟨_, _, rfl⟩ | ⟨_, _, rfl⟩ | ⟨_, rfl⟩
    · exact hs
    · have hpixel : IsPixelBurst (.data (be16 color)) := isPixelBurst_data (n := 1) rfl (by omega) (by omega)
      exact traceInv_setwin_pixels x y x y (List.forall_mem_singleton.2 hpixel) hs
    · exact hkept rfl
  | pack565 => cases h; exact hkept rfl
  | enginit | frame | wrap | wrapdiff | collide | rpos =>
    obtain ⟨_, _, _, _, _, _, _, _, htx, _⟩ := exec_sameDrv rfl h
    exact hkept htx.symm

/-- Settles O58: an operation keeps whole frames, and nothing else a step does touches the trace. -/
theorem traceFramingKept : Obligations.TraceFramingKept := by
  intro s t hs h
  rcases step_runs_or_idles h with ⟨i, u, hexec, rfl⟩ | ⟨_, htx⟩
  · exact traceInv_congr (s := u) rfl (exec_traceInv hexec hs)
  · exact traceInv_congr htx hs

end Sys2Proof.Proofs
end

section
/-! PROOFS. The operations of DRV (40_driver_ops.md): what each answers, which events it appends, and that nothing else
changes.

The idea: a stream is a closed list, burst `k` holding the pixels from `60k` on (`stream_eq_map`), so its count and its burst
sizes are read off. Each operation then has one equation for its next state, in which ROWBUF filled with a colour streams as
that colour. -/

namespace Sys2Proof.Proofs

open Sys2Proof.Machine Sys2Proof.Safety

variable {s : State} {src : Nat → U16}

/-! ### Operands: rotation, byte order, packed colours (30_encoding.md R62, R76) -/

theorem rotOf_eq_ofNat_mod (m : Byte) : rotOf m = BitVec.ofNat 2 (m.toNat % 4) :=
  BitVec.eq_of_toNat_eq (by simp [rotOf])

theorem be16_eq_div_mod (v : U16) :
    be16 v = [BitVec.ofNat 8 (v.toNat / 256), BitVec.ofNat 8 (v.toNat % 256)] := by
  have hhigh : v.extractLsb' 8 8 = BitVec.ofNat 8 (v.toNat / 256) :=
    BitVec.eq_of_toNat_eq (by simp [Nat.shiftRight_eq_div_pow])
  have hlow : v.extractLsb' 0 8 = BitVec.ofNat 8 (v.toNat % 256) :=
    BitVec.eq_of_toNat_eq (by simp)
  rw [be16, hhigh, hlow]

/-- A corner with its offset added to 16 bits, most significant byte first (40_driver_ops.md R103). -/
theorem be16_add_eq_div_mod (v p : U16) :
    be16 (v + p)
      = [BitVec.ofNat 8 ((v.toNat + p.toNat) % 65536 / 256), BitVec.ofNat 8 ((v.toNat + p.toNat) % 256)] := by
  rw [be16_eq_div_mod, BitVec.toNat_add, Nat.mod_mod_of_dvd _ (by decide)]

/-- The three fields of a packed colour lie side by side, red first. -/
theorem pack565_eq_append (r g b : Byte) :
    pack565 r g b = r.extractLsb' 3 5 ++ g.extractLsb' 2 6 ++ b.extractLsb' 3 5 := by
  refine BitVec.eq_of_getLsbD_eq fun i hi => ?_
  simp only [pack565, BitVec.getLsbD_or, BitVec.getLsbD_shiftLeft, BitVec.getLsbD_setWidth, BitVec.getLsbD_extractLsb',
    BitVec.getLsbD_append]
  grind

/-- Settles O25: each field of the packed colour is read back from the side-by-side form. -/
theorem packResult : Obligations.PackResult := by
  refine fun r g b s => ⟨pack565 r g b, ?_, ?_, ?_, rfl⟩ <;> rw [pack565_eq_append]
  · rw [BitVec.extractLsb'_append_eq_of_le (by decide)]
    exact BitVec.extractLsb'_append_eq_left
  · rw [BitVec.extractLsb'_append_eq_of_le (by decide)]
    exact BitVec.extractLsb'_append_eq_right
  · exact BitVec.extractLsb'_append_eq_right

/-! ### Refusal before INIT (60_exceptions.md R147) -/

/-- The operations that INIT must come before. -/
inductive NeedsInit : Instr → Prop
  | setrot (m : Byte) : NeedsInit (.setrot m)
  | setwin (x0 y0 x1 y1 : U16) : NeedsInit (.setwin x0 y0 x1 y1)
  | fillwin (x0 y0 x1 y1 : U16) (p n : Nat) : NeedsInit (.fillwin x0 y0 x1 y1 p n)
  | fillscr (color : U16) : NeedsInit (.fillscr color)
  | drawpix (x y color : U16) : NeedsInit (.drawpix x y color)

theorem exec_of_notReady {i : Instr} (hi : NeedsInit i) (hready : s.drvReady = false) :
    exec i s = .next (markRefused .notReady s) := by
  cases hi with
  | setrot => rw [exec, execSetrot, setrotOn, whenReady_notReady _ hready]
  | setwin => rw [exec, execSetwin, setwinOn, whenReady_notReady _ hready]
  | fillwin => rw [exec, execFillwin, fillwinOn, whenReady_notReady _ hready]
  | fillscr => rw [exec, execFillscr, fillscrOn, whenReady_notReady _ hready]
  | drawpix => rw [exec, execDrawpix, drawpixOn, whenReady_notReady _ hready]

/-! ### SETROT and SETWIN -/

/-- Settles O30. -/
theorem setrotResult : Obligations.SetrotResult := by
  intro m s
  refine ⟨fun hready => ?_, exec_of_notReady (.setrot m)⟩
  rw [← rotOf_eq_ofNat_mod, exec, execSetrot, setrotOn, whenReady_ready _ hready]
  rfl

/-- Settles O31. -/
theorem setwinResult : Obligations.SetwinResult := by
  intro x0 y0 x1 y1 s
  refine ⟨fun hready => ?_, exec_of_notReady (.setwin x0 y0 x1 y1)⟩
  rw [exec, execSetwin, setwinOn, whenReady_ready _ hready]
  simp only [setwin, emit, setwinEvents, be16_add_eq_div_mod, List.cons_append, List.nil_append]

/-! ### The bursts of a stream (40_driver_ops.md R104) -/

/-- From pixel `i` on, burst `k` starts `60k` pixels later and holds 60 pixels or the remainder. -/
theorem streamFrom_eq_map {count fuel i : Nat} (hfuel : count ≤ i + fuel) :
    streamFrom src count fuel i = (List.range ((count - i + 59) / 60)).map fun k =>
      .data (burstBytes src (i + 60 * k) (min 60 (count - (i + 60 * k)))) := by
  induction fuel generalizing i with
  | zero => rw [Nat.sub_eq_zero_of_le (m := i) hfuel]; rfl
  | succ fuel ih =>
    by_cases hi : i < count
    · have hbursts : (count - i + 59) / 60 = (count - (i + min 60 (count - i)) + 59) / 60 + 1 := by omega
      rw [streamFrom_burst src fuel hi, ih (by omega), hbursts, List.range_succ_eq_map, List.map_cons, List.map_map]
      refine congrArg₂ List.cons rfl (List.map_congr_left fun k hk => ?_)
      have hstart : i + min 60 (count - i) + 60 * k = i + 60 * (k + 1) := by
        have := List.mem_range.1 hk
        omega
      rw [hstart]
      rfl
    · rw [streamFrom_end src (fuel + 1) (Nat.le_of_not_lt hi), Nat.sub_eq_zero_of_le (Nat.le_of_not_lt hi)]
      rfl

theorem stream_eq_map (src : Nat → U16) (count : Nat) :
    stream src count = (List.range ((count + 59) / 60)).map fun k =>
      .data (burstBytes src (60 * k) (min 60 (count - 60 * k))) := by
  have h := streamFrom_eq_map (src := src) (Nat.le_add_left count 0)
  simpa only [stream, Nat.sub_zero, Nat.zero_add] using h

theorem stream_length (src : Nat → U16) (count : Nat) : (stream src count).length = (count + 59) / 60 := by
  rw [stream_eq_map, List.length_map, List.length_range]

/-- Settles O32: burst `k` is the `k`-th of the closed form, and holds a pixel because `60k` is below the count. -/
theorem streamBytesAndBursts : Obligations.StreamBytesAndBursts := by
  refine fun src count => ⟨dataBytes_stream src count, stream_length src count, fun k hk => ?_⟩
  refine ⟨burstBytes src (60 * k) (min 60 (count - 60 * k)), ?_, burstBytes_length .., ?_⟩
  · rw [stream_eq_map, List.getElem?_map, List.getElem?_range hk, Option.map_some]
  · rw [burstBytes_length]
    omega

theorem rows_length (src : Nat → U16) (rows count : Nat) :
    (List.replicate rows (stream src count)).flatten.length = rows * ((count + 59) / 60) := by
  rw [List.length_flatten, List.map_replicate, List.sum_replicate_nat, stream_length]

/-- A burst of pixels is a DATA event of 1 to 120 bytes (30_encoding.md R70). -/
theorem IsPixelBurst.bytes {e : Event} (h : IsPixelBurst e) : ∃ bs, e = .data bs ∧ 1 ≤ bs.length ∧ bs.length ≤ 120 := by
  obtain ⟨bs, rfl, hbs⟩ := h
  obtain ⟨heven, hmax⟩ := Bool.and_eq_true_iff.1 hbs
  obtain ⟨_, hpos⟩ := Bool.and_eq_true_iff.1 heven
  exact ⟨bs, rfl, of_decide_eq_true hpos, of_decide_eq_true hmax⟩

/-! ### FILLWIN -/

theorem setwinEvents_length (c : Cfg) (x0 y0 x1 y1 : U16) (s : State) : (setwinEvents c x0 y0 x1 y1 s).length = 5 := rfl

/-- Settles O33. -/
theorem fillwinResult : Obligations.FillwinResult := by
  intro x0 y0 x1 y1 p n s _ _
  refine ⟨rfl, fun hready hfits => ?_, fun d hready hpast => ?_, exec_of_notReady (.fillwin x0 y0 x1 y1 p n)⟩
  · exact fillwinOn_of_ready x0 y0 x1 y1 hready hfits
  · rw [fillwinOn, whenReady_ready _ hready, if_pos hpast]
    rfl

/-- Settles O34: the window's five events, then a stream, on the wire. -/
theorem fillwinWireColours : Obligations.FillwinWireColours := by
  intro c x0 y0 x1 y1 p n s t hready hfits h
  rw [fillwinOn_of_ready x0 y0 x1 y1 hready hfits] at h
  cases h
  refine ⟨setwinEvents c x0 y0 x1 y1 s ++ stream (fun i => Memory.read s.pixbuf (p + i)) n, ?_, ?_, ?_⟩
  · rw [emit_tx, setwin_tx, List.append_assoc]
  · rw [List.length_append, setwinEvents_length, stream_length]
  · rw [wire_append, wire_of_pixelBursts fun _ => isPixelBurst_of_mem_stream, dataBytes_stream]
    rfl

/-! ### DRAWPIX -/

/-- Settles O38. -/
theorem drawpixResult : Obligations.DrawpixResult := by
  intro x y color s
  refine ⟨fun hready hoff => ?_, fun hready hx hy => ?_, exec_of_notReady (.drawpix x y color)⟩
  · rw [exec, execDrawpix, drawpixOn, whenReady_ready _ hready, if_pos (show x ≥ s.width ∨ y ≥ s.height from hoff)]
  · have hin : ¬ (x ≥ s.width ∨ y ≥ s.height) := by
      simp only [ge_iff_le, BitVec.le_def]
      omega
    rw [← be16_eq_div_mod, exec, execDrawpix, drawpixOn, whenReady_ready _ hready, if_neg hin, setwin, emit_emit]
    rfl

/-! ### FILLSCR -/

/-- The events of a whole panel in one colour: a stream a row (40_driver_ops.md R106). -/
def solidRows (color width height : U16) : List Event :=
  (List.replicate height.toNat (stream (fun _ => color) width.toNat)).flatten

theorem solidRows_length (color width height : U16) :
    (solidRows color width height).length = height.toNat * ((width.toNat + 59) / 60) :=
  rows_length ..

theorem isPixelBurst_of_mem_solidRows {color width height : U16} {e : Event} (he : e ∈ solidRows color width height) :
    IsPixelBurst e :=
  isPixelBurst_of_mem_rows he

theorem dataBytes_solidRows (color width height : U16) :
    dataBytes (solidRows color width height)
      = (List.replicate (width.toNat * height.toNat) (be16 color)).flatten := by
  rw [solidRows, dataBytes_rows_const, dataBytes_stream_const]

/-- The window from the origin: its first corner is the offset pair itself (40_driver_ops.md R103). -/
theorem setwinEvents_origin (c : Cfg) (x1 y1 : U16) (s : State) :
    setwinEvents c 0 0 x1 y1 s =
      [.cmd (c.cmd .caset), .data (be16 s.xstart ++ be16 (x1 + s.xstart)),
       .cmd (c.cmd .raset), .data (be16 s.ystart ++ be16 (y1 + s.ystart)),
       .cmd (c.cmd .ramwr)] := by
  rw [setwinEvents, zero_add, zero_add]

/-- Where ROWBUF is canonical, FILLSCR fills it and sends rows of the colour (40_driver_ops.md R106). -/
theorem fillscr_eq_of_wf (c : Cfg) (color : U16) (hwf : Memory.wf s.rowbuf) :
    fillscr c color s = { s with
      rowbuf := Memory.fill s.rowbuf s.width.toNat color
      tx := s.tx ++ setwinEvents c 0 0 (s.width - 1) (s.height - 1) s ++ solidRows color s.width s.height } := by
  rw [solidRows, ← stream_filled color s.width.toNat hwf]
  rfl

/-- Settles O35. -/
theorem fillscrResult : Obligations.FillscrResult := by
  intro color s hwf
  refine ⟨fun hready hwidth => ?_, exec_of_notReady (.fillscr color)⟩
  refine ⟨Memory.fill s.rowbuf s.width.toNat color, fun k => Memory.read_fill _ k color hwf, ?_⟩
  rw [exec, execFillscr, fillscrOn_of_ready color hready hwidth, fillscr_eq_of_wf _ color hwf, setwinEvents_origin]
  rfl

/-- Settles O37: the pixels are the rows of the colour. -/
theorem fillscrPixelBytes : Obligations.FillscrPixelBytes := by
  intro color s t hwf hready h
  refine ⟨solidRows color s.width s.height, ?_, fun _ he => (isPixelBurst_of_mem_solidRows he).bytes,
    solidRows_length .., dataBytes_solidRows ..⟩
  rcases execFillscr_cases h with ⟨_, _, rfl⟩ | ⟨hnot, _⟩
  · rw [fillscr_eq_of_wf _ color hwf, setwinEvents_origin]
  · exact absurd (hready.symm.trans hnot) nofun

/-! ### INIT (40_driver_ops.md R100) -/

/-- The panels INIT refuses (60_exceptions.md R149). -/
theorem geometryUnsupported_iff (c : Cfg) (width height : U16) :
    geometryUnsupported c width height = true ↔
      width = 0 ∨ height = 0 ∨ c.ctrlCols < width.toNat ∨ 320 < height.toNat := by
  rw [← Bool.not_eq_false, geometryUnsupported_eq_false_iff]
  simp only [← BitVec.toNat_inj, BitVec.ofNat_eq_ofNat, BitVec.toNat_ofNat, Nat.zero_mod, ctrlRows]
  omega

/-- The state in which INIT fills the screen: the panel and its rotation set, the bring-up sent. -/
def broughtUp (c : Cfg) (width height : U16) (rotation : Byte) (s : State) : State :=
  setrot c rotation (emit (bringUpEvents c) { s with width := width, height := height, geom := c.geomClass width height })

theorem initialised_eq (width height : U16) (rotation : Byte) (s : State) :
    initialised width height rotation s =
      { emit [.bl true] (fillscr Config.current Config.current.bgColor
          (broughtUp Config.current width height rotation s)) with drvReady := true } := rfl

/-- Settles O27: the refused panels, then the nine steps as one update. -/
theorem initResult : Obligations.InitResult := by
  intro width height rotation s hwf
  refine ⟨fun hbad => ?_, fun hgood => ?_⟩
  · rw [exec, execInit, initOn, if_pos ((geometryUnsupported_iff ..).2 hbad)]
    rfl
  · have hpanel : geometryUnsupported Config.current width height = false :=
      Bool.eq_false_iff.2 (mt (geometryUnsupported_iff ..).1 hgood)
    refine ⟨Memory.fill s.rowbuf width.toNat Config.current.bgColor, fun k => Memory.read_fill _ k _ hwf, ?_⟩
    have hwf' : Memory.wf (broughtUp Config.current width height rotation s).rowbuf := hwf
    rw [exec_init_of_supported rotation s hpanel, initialised_eq, fillscr_eq_of_wf _ _ hwf', setwinEvents_origin,
      ← rotOf_eq_ofNat_mod]
    simp [broughtUp, setrot, emit, bringUpEvents, solidRows, tRstHold, tSwreset]

/-- The events of an accepted INIT, counted step by step (40_driver_ops.md R100). -/
theorem initialised_tx_length (width height : U16) (rotation : Byte) (s : State) :
    (initialised width height rotation s).tx.length
      = s.tx.length + (22 + 5 + height.toNat * ((width.toNat + 59) / 60) + 1) := by
  have hbringUp : (broughtUp Config.current width height rotation s).tx.length = s.tx.length + 22 := by
    simp [broughtUp, bringUpEvents]
  have hwidth : (broughtUp Config.current width height rotation s).width = width := rfl
  have hheight : (broughtUp Config.current width height rotation s).height = height := rfl
  simp only [initialised_eq, emit_tx, fillscr_tx, List.length_append, setwinEvents_length, rows_length, hbringUp, hwidth,
    hheight, List.length_singleton]
  omega

/-- Settles O28. -/
theorem initEventCount : Obligations.InitEventCount := by
  intro width height rotation s t hw hh hcols hrows h
  have hgood : ¬ (width = 0 ∨ height = 0 ∨ Config.current.ctrlCols < width.toNat ∨ 320 < height.toNat) := by
    simp only [hw, hh, false_or]
    omega
  rw [exec_init_of_supported rotation s (Bool.eq_false_iff.2 (mt (geometryUnsupported_iff ..).1 hgood))] at h
  cases h
  exact initialised_tx_length width height rotation s

end Sys2Proof.Proofs
end

section
/-! PROOFS. The operations of ENG (41_engine_ops.md): the answers of its four queries, the outcomes of FRAME, and the laws
the document states.

The idea: a slot survives its register (`slotBits_toNat`, `zext16_toNat`, `sext16_toInt`), so each query is a fact about
integers modulo 24, and a distance below one slot is a congruence (`natAbs_wrapDiff_lt_one_iff`). FRAME has one equation for
each of its outcomes, and a run of frames in FLASH is five toggles and the exit, by induction on the frames. -/

namespace Sys2Proof.Proofs

open Sys2Proof.Machine Sys2Proof.Safety

variable {s t : State} {level : Bool}

/-! ### Slots as integers (41_engine_ops.md R122, R123) -/

/-- The document's formula over truncating remainders is the Euclidean one: its inner sum is positive. -/
theorem wrap_eq_tmod (i : Int) : wrap i = Int.tmod (Int.tmod i 24 + 24) 24 := by
  have hpos : -24 < Int.tmod i 24 := Int.lt_tmod_of_pos i (by decide)
  have hdiv : Int.tmod i 24 + 24 * Int.tdiv i 24 = i := Int.tmod_add_mul_tdiv i 24
  rw [Int.tmod_eq_emod_of_nonneg (by omega), wrap_eq]
  omega

theorem zext16_toNat {k : Int} (h0 : 0 ≤ k) (h24 : k < 24) : ((zext16 k).toNat : Int) = k := by
  simp only [zext16, BitVec.toNat_ofInt]
  omega

theorem zext16_wrap_toNat (i : Int) : ((zext16 (wrap i)).toNat : Int) = wrap i :=
  zext16_toNat (wrap_range i).1 (wrap_range i).2

theorem slotInt_slotBits_wrap (i : Int) : slotInt (slotBits (wrap i)) = wrap i :=
  slotBits_toNat (wrap_range i).1 (wrap_range i).2

theorem wrapDiff_range (a b : Int) : -12 < wrapDiff a b ∧ wrapDiff a b ≤ 12 := by
  rw [wrapDiff_eq]
  split <;> omega

theorem wrapDiff_self (a : Int) : wrapDiff a a = 0 := by rw [wrapDiff_eq, Int.sub_self]; rfl

theorem dvd_sub_wrapDiff (a b : Int) : (24 : Int) ∣ (a - b) - wrapDiff a b := by
  rw [wrapDiff_eq]
  split <;> omega

theorem sext16_toInt {k : Int} (hlow : -12 < k) (hhigh : k ≤ 12) : (sext16 k).toInt = k :=
  BitVec.toInt_ofInt_eq_self (by decide) (by omega) (by omega)

theorem natAbs_wrapDiff_lt_one_iff (a b : Int) : (wrapDiff a b).natAbs < 1 ↔ (a - b) % 24 = 0 := by
  have hapart := one_le_natAbs_wrapDiff_iff a b
  omega

/-- Between two slots the distance is below one exactly where they coincide. -/
theorem natAbs_wrapDiff_lt_one_iff_eq_wrap (c : Int) {n : Int} (h0 : 0 ≤ n) (h24 : n < 24) :
    (wrapDiff c n).natAbs < 1 ↔ n = wrap c := by
  rw [natAbs_wrapDiff_lt_one_iff, wrap_eq]
  omega

/-- Half a turn is 12 both ways round. -/
theorem wrapDiff_of_half_turn {a b : Int} (h : (24 : Int) ∣ (a - b) - 12) : wrapDiff a b = 12 := by
  have hrange := wrapDiff_range a b
  have hdvd := dvd_sub_wrapDiff a b
  omega

/-- Off half a turn both differences lie strictly within (-12, 12), and their sum is a multiple of 24. -/
theorem wrapDiff_antisymm {a b : Int} (h : ¬ (24 : Int) ∣ (a - b) - 12) : wrapDiff a b = -wrapDiff b a := by
  have hab := wrapDiff_range a b
  have hba := wrapDiff_range b a
  have hdab := dvd_sub_wrapDiff a b
  have hdba := dvd_sub_wrapDiff b a
  omega

/-! ### ENGINIT, WRAP and WRAPDIFF -/

/-- Settles O10: the meaning of ENGINIT is this update. -/
theorem enginitResult : Obligations.EnginitResult := fun _ => rfl

/-- Settles O11: RESP holds `wrap i`, whose range, congruence and formula are those of the integer. -/
theorem wrapResultAndLaws : Obligations.WrapResultAndLaws := by
  refine ⟨fun i s _ => ⟨zext16 (wrap i), ?_⟩, fun i k => ⟨wrap_eq_tmod i, ?_⟩⟩
  · have hresp := zext16_wrap_toNat i
    have hrange := wrap_range i
    have hdvd : (24 : Int) ∣ i - wrap i := by rw [wrap_eq]; omega
    exact ⟨by omega, by rwa [hresp], by rw [hresp, wrap_eq_tmod], rfl⟩
  · simp only [wrap_eq]
    omega

/-- Settles O12: RESP holds `wrap_diff a b`, which is the representative in (-12, 12]. -/
theorem wrapdiffResultAndLaws : Obligations.WrapdiffResultAndLaws := by
  refine ⟨fun a b s _ _ => ⟨sext16 (wrapDiff a b), ?_⟩, fun a b => ?_⟩
  · obtain ⟨hlow, hhigh⟩ := wrapDiff_range a b
    rw [sext16_toInt hlow hhigh]
    exact ⟨hlow, hhigh, dvd_sub_wrapDiff a b, rfl⟩
  · have hzero : wrapDiff a b = 0 ↔ wrap a = wrap b := by
      have hdist := natAbs_wrapDiff_lt_one_iff a b
      rw [wrap_eq, wrap_eq]
      omega
    exact ⟨wrapDiff_range a b, dvd_sub_wrapDiff a b, wrapDiff_self a, hzero, wrapDiff_antisymm,
      fun h => ⟨wrapDiff_of_half_turn h, wrapDiff_of_half_turn (by omega)⟩⟩

/-! ### The valid entries (10_state.md R20) -/

theorem valid_getElem? (s : State) (k : Nat) : s.valid[k]? = if k < s.count.val then s.needles[k]? else none := by
  rw [State.valid, List.getElem?_take, Vector.getElem?_toList]

theorem mem_valid_iff (n : BitVec 5) : n ∈ s.valid ↔ ∃ k, k < s.count.val ∧ s.needles[k]? = some n := by
  simp only [List.mem_iff_getElem?, valid_getElem?, Option.ite_none_right_eq_some]

/-- Some valid entry is less than one slot from `c` (41_engine_ops.md R124). -/
abbrev Coincides (c : Int) (s : State) : Prop :=
  ∃ k n, k < s.count.val ∧ s.needles[k]? = some n ∧ (wrapDiff c (n.toNat : Int)).natAbs < 1

/-- The scan over the valid entries is the quantifier over the entries below COUNT. -/
theorem collision_iff_coincides (c : Int) (s : State) : collision c s = true ↔ Coincides c s := by
  simp only [collision_iff, mem_valid_iff, collidesWith_iff, slotInt]
  constructor
  · rintro ⟨n, ⟨k, hk, hn⟩, hdist⟩
    exact ⟨k, n, hk, hn, hdist⟩
  · rintro ⟨k, n, hk, hn, hdist⟩
    exact ⟨n, ⟨k, hk, hn⟩, hdist⟩

/-- A slot just appended is itself a valid entry at distance 0 (41_engine_ops.md R129 (3)). -/
theorem collision_appendNeedle {k : Int} (h0 : 0 ≤ k) (h24 : k < 24) (hroom : s.count.val < 30) :
    collision k (appendNeedle k s) = true := by
  refine (collision_iff ..).2 ⟨slotBits k, ?_, ?_⟩
  · simp [appendNeedle_valid k hroom]
  · rw [collidesWith_iff, natAbs_wrapDiff_lt_one_iff, show slotInt (slotBits k) = k from slotBits_toNat h0 h24]
    omega

/-! ### COLLIDE and RPOS -/

theorem exec_collide_of_collision {c : Int} (h : collision c s = true) :
    exec (.collide c) s = .next { s with resp := 1 } := by
  simp only [exec, execCollide, h, if_true, setResp]

theorem exec_collide_of_no_collision {c : Int} (h : collision c s = false) :
    exec (.collide c) s = .next { s with resp := 0 } := by
  simp only [exec, execCollide, h, Bool.false_eq_true, if_false, setResp]

/-- Settles O13: the scan is the quantifier, and between slots a distance below one is equality. -/
theorem collideResult : Obligations.CollideResult := by
  refine fun c s _ => ⟨fun h => ?_, fun h => ?_, fun ⟨_, hslots, _⟩ => ?_⟩
  · exact exec_collide_of_collision ((collision_iff_coincides c s).2 h)
  · exact exec_collide_of_no_collision (Bool.eq_false_iff.2 (mt (collision_iff_coincides c s).1 h))
  · refine exists_congr fun k => exists_congr fun n => and_congr_right fun hk => and_congr_right fun hn => ?_
    have hslot : n.toNat < 24 := hslots n ((mem_valid_iff n).2 ⟨k, hk, hn⟩)
    exact natAbs_wrapDiff_lt_one_iff_eq_wrap c (by omega) (by omega)

/-- The answer of RPOS for the entry `n`: the needle turned by the spin (41_engine_ops.md R126). -/
def renderedSlot (n spin : BitVec 5) : U16 := zext16 (wrap (slotInt n + slotInt spin))

theorem renderedSlot_toNat (n spin : BitVec 5) : (renderedSlot n spin).toNat = (n.toNat + spin.toNat) % 24 := by
  have hresp := zext16_wrap_toNat (slotInt n + slotInt spin)
  rw [wrap_eq, slotInt, slotInt] at hresp
  rw [renderedSlot, slotInt, slotInt, wrap_eq]
  omega

theorem exec_rpos_of_valid {k : Nat} {n : BitVec 5} (h : s.valid[k]? = some n) :
    exec (.rpos k) s = .next { s with resp := renderedSlot n s.spin } := by
  simp only [exec, execRpos, h, setResp, renderedSlot]

theorem exec_rpos_of_invalid {k : Nat} (h : s.valid[k]? = none) :
    exec (.rpos k) s = .next { s with refused := true, refuseReason := some .needleIndex } := by
  simp only [exec, execRpos, h, refuse, markRefused]

/-- Settles O14. -/
theorem rposResult : Obligations.RposResult := by
  refine fun k s _ => ⟨fun n hk hn => ⟨renderedSlot n s.spin, renderedSlot_toNat n s.spin, ?_⟩, fun hk => ?_⟩
  · exact exec_rpos_of_valid (by rw [valid_getElem?, if_pos hk, hn])
  · exact exec_rpos_of_invalid (by rw [valid_getElem?, if_neg (by omega)])

/-- Settles O24: the stored slots differ, and turning both by one spin keeps them apart. -/
theorem renderedPositionsDistinct : Obligations.RenderedPositionsDistinct := by
  intro s t u j k ⟨_, _, hapart, _⟩ hjk hk ht hu hresp
  rw [← valid_length] at hk
  have hj : j < s.valid.length := hjk.trans hk
  rw [exec_rpos_of_valid (List.getElem?_eq_getElem hj)] at ht
  rw [exec_rpos_of_valid (List.getElem?_eq_getElem hk)] at hu
  cases ht
  cases hu
  have hsum := congrArg BitVec.toNat hresp
  simp only [renderedSlot_toNat] at hsum
  have hdist := (one_le_natAbs_wrapDiff_iff ..).1 (List.pairwise_iff_getElem.1 hapart j k hj hk hjk)
  rw [slotInt, slotInt] at hdist
  omega

/-! ### FRAME, one equation for each outcome (41_engine_ops.md R121) -/

theorem exec_frame_spin (hplay : s.gameState = .play) (hedge : risingEdge s.btnPrev level = false) :
    exec (.frame level) s = .next (advanceSpin (sampleButton level s)) := by
  simp only [exec, execFrame, sampleButton_gameState, hplay, framePlay, hedge, Bool.false_eq_true, if_false]

theorem exec_frame_of_edge (hplay : s.gameState = .play) (hedge : risingEdge s.btnPrev level = true) :
    exec (.frame level) s = .next (advanceSpin (place (sampleButton level s))) := by
  simp only [exec, execFrame, sampleButton_gameState, hplay, framePlay, hedge, if_true]

/-- What FRAME leaves when the placement on its edge succeeds: the candidate of the old spin stored, then the advance. -/
def placed (level : Bool) (s : State) : State := advanceSpin (appendNeedle (candidate s) (sampleButton level s))

theorem exec_frame_place (hplay : s.gameState = .play) (hedge : risingEdge s.btnPrev level = true)
    (hfree : collision (candidate s) s = false) (hroom : s.count.val < 30) :
    exec (.frame level) s = .next (placed level s) := by
  rw [exec_frame_of_edge hplay hedge]
  rcases place_cases (sampleButton level s) with ⟨hhit | hfull, _⟩ | ⟨_, hplace⟩
  · exact absurd (hfree.symm.trans hhit) nofun
  · exact absurd hfull hroom.ne
  · rw [hplace]; rfl

theorem exec_frame_fail (hplay : s.gameState = .play) (hedge : risingEdge s.btnPrev level = true)
    (hfail : collision (candidate s) s = true ∨ s.count.val = 30) :
    exec (.frame level) s = .next (advanceSpin (enterFlash (sampleButton level s))) := by
  rw [exec_frame_of_edge hplay hedge]
  rcases place_cases (sampleButton level s) with ⟨_, hplace⟩ | ⟨⟨hfree, hroom⟩, _⟩
  · rw [hplace]
  · rcases hfail with hhit | hfull
    · exact absurd (hhit.symm.trans hfree) nofun
    · exact absurd hfull hroom.ne

theorem exec_frame_of_flash (level : Bool) (hflash : s.gameState = .flash) :
    exec (.frame level) s = .next (frameFlash (sampleButton level s)) := by
  simp only [exec, execFrame, sampleButton_gameState, hflash]

theorem exec_frame_toggle (level : Bool) (hflash : s.gameState = .flash) (hmore : (s.fcnt + 1).toNat ≠ 6) :
    exec (.frame level) s = .next (advanceSpin (flashToggle (sampleButton level s))) := by
  rw [exec_frame_of_flash level hflash]
  rcases frameFlash_cases (sampleButton level s) with ⟨hlast, _⟩ | ⟨_, hframe⟩
  · exact absurd hlast hmore
  · rw [hframe]

/-- The exit overwrites all that the sixth toggle, the advance and the button sample wrote. -/
theorem exec_frame_leave (level : Bool) (hflash : s.gameState = .flash) (hlast : s.fcnt = 5) :
    exec (.frame level) s = .next (exitFlash s) := by
  rw [exec_frame_of_flash level hflash]
  rcases frameFlash_cases (sampleButton level s) with ⟨_, hframe⟩ | ⟨hmore, _⟩
  · rw [hframe]; rfl
  · exact absurd (by rw [sampleButton_fcnt, hlast]; rfl) hmore

theorem advanceSpin_spin_toNat (s : State) : (advanceSpin s).spin.toNat = (s.spin.toNat + 1) % 24 := by
  have hspin := slotInt_slotBits_wrap (slotInt s.spin + 1)
  simp only [wrap_eq, slotInt] at hspin
  simp only [advanceSpin, spinStep, wrap_eq, slotInt, Nat.cast_one]
  omega

theorem candidate_eq (s : State) : candidate s = (18 - (s.spin.toNat : Int)) % 24 := rfl

theorem slotBits_candidate_toNat (s : State) : ((slotBits (candidate s)).toNat : Int) = candidate s :=
  slotInt_slotBits_wrap _

theorem appendNeedle_eq_set (cand : Int) (hroom : s.count.val < 30) :
    appendNeedle cand s = { s with
      needles := s.needles.set s.count.val (slotBits cand) hroom, count := ⟨s.count.val + 1, by omega⟩ } := by
  have hneedles : s.needles.setIfInBounds s.count.val (slotBits cand) =
      s.needles.set s.count.val (slotBits cand) hroom :=
    Vector.ext fun k hk => by rw [Vector.getElem_setIfInBounds, Vector.getElem_set]
  have hcount : s.count + 1 = ⟨s.count.val + 1, by omega⟩ := Fin.ext (by rw [Fin.val_add_one_of_lt' (by omega)])
  rw [appendNeedle, hneedles, hcount]

/-- Settles O15. -/
theorem frameInPlayWithoutEdge : Obligations.FrameInPlayWithoutEdge := by
  intro level s hplay hno
  have hedge : risingEdge s.btnPrev level = false := by simpa [risingEdge] using hno
  exact ⟨_, advanceSpin_spin_toNat (sampleButton level s), exec_frame_spin hplay hedge⟩

/-- Settles O16: the scan `place` makes is over the entries the statement quantifies over. -/
theorem framePlacementOnEdge : Obligations.FramePlacementOnEdge := by
  intro s hplay hprev
  have hedge : risingEdge s.btnPrev true = true := by rw [hprev]; rfl
  have hscan := collision_iff_coincides (candidate s) s
  refine ⟨_, slotBits (candidate s), advanceSpin_spin_toNat (sampleButton true s), slotBits_candidate_toNat s, ?_, ?_⟩
  · rw [slotBits_candidate_toNat]
    exact fun hfail => exec_frame_fail hplay hedge (hfail.imp_left hscan.2)
  · rw [slotBits_candidate_toNat]
    intro hfree hroom
    rw [exec_frame_place hplay hedge (Bool.eq_false_iff.2 (mt hscan.1 hfree)) hroom]
    exact congrArg (fun u => Host.Outcome.next (advanceSpin u))
      (appendNeedle_eq_set (s := sampleButton true s) (candidate s) hroom)

/-- Settles O17: FCNT reaches six exactly from five. -/
theorem frameInFlash : Obligations.FrameInFlash := by
  refine fun level s hflash => ⟨fun hne => ?_, fun hlast => exec_frame_leave level hflash hlast⟩
  have hmore : (s.fcnt + 1).toNat ≠ 6 := by bv_omega
  exact ⟨_, advanceSpin_spin_toNat (sampleButton level s), exec_frame_toggle level hflash hmore⟩

/-! ### A needle just placed -/

/-- A frame that counts one more needle is a placement: no other outcome of FRAME raises COUNT by one. -/
theorem placed_of_count_succ (h : exec (.frame level) s = .next t) (hcount : t.count.val = s.count.val + 1) :
    s.count.val < 30 ∧ t = placed level s := by
  cases exec_effect h with
  | place _ _ _ _ hroom => exact ⟨hroom, rfl⟩
  | refused | answer | emits | spin | fail | toggle => exact absurd hcount (Nat.lt_succ_self _).ne
  | leave => exact absurd hcount (Nat.succ_ne_zero _).symm

theorem placed_valid (level : Bool) (hroom : s.count.val < 30) :
    (placed level s).valid = s.valid ++ [slotBits (candidate s)] :=
  appendNeedle_valid (s := sampleButton level s) (candidate s) hroom

theorem placed_entry (level : Bool) (hroom : s.count.val < 30) :
    (placed level s).needles[s.count.val]? = some (slotBits (candidate s)) := by
  rw [show (placed level s).needles = s.needles.setIfInBounds s.count.val (slotBits (candidate s)) from rfl,
    Vector.getElem?_setIfInBounds_self, if_pos hroom]

theorem placed_spin_toNat (level : Bool) (s : State) : (placed level s).spin.toNat = (s.spin.toNat + 1) % 24 :=
  advanceSpin_spin_toNat _

/-- The candidate undoes the spin and the frame advances it once, so the new needle stands one past slot 18. -/
theorem renderedSlot_placed (level : Bool) (s : State) :
    renderedSlot (slotBits (candidate s)) (placed level s).spin = 19 := by
  have hcand := slotBits_candidate_toNat s
  rw [candidate_eq] at hcand
  refine BitVec.eq_of_toNat_eq ?_
  rw [renderedSlot_toNat, placed_spin_toNat, candidate_eq]
  change _ = 19
  omega

theorem exec_rpos_placed (level : Bool) (hroom : s.count.val < 30) :
    exec (.rpos s.count.val) (placed level s) = .next { placed level s with resp := 19 } := by
  have hnew : (placed level s).valid[s.count.val]? = some (slotBits (candidate s)) := by
    rw [placed_valid level hroom, ← valid_length, List.getElem?_concat_length]
  rw [exec_rpos_of_valid hnew, renderedSlot_placed]

/-- Settles O20. -/
theorem newNeedleRendersAtNineteen : Obligations.NewNeedleRendersAtNineteen := by
  intro s t _ h hcount
  obtain ⟨hroom, rfl⟩ := placed_of_count_succ h hcount
  exact exec_rpos_placed true hroom

/-- Settles O21: the advance of SPIN moves no stored needle. -/
theorem placedNeedleCollidesAtOnce : Obligations.PlacedNeedleCollidesAtOnce := by
  intro s t h hcount
  obtain ⟨hroom, rfl⟩ := placed_of_count_succ h hcount
  refine ⟨slotBits (candidate s), placed_entry true hroom, exec_collide_of_collision ?_⟩
  rw [slotBits_candidate_toNat]
  exact collision_appendNeedle (s := sampleButton true s) (wrap_range _).1 (wrap_range _).2 hroom

/-! ### The length of FLASH (41_engine_ops.md R121 (c), R129 (5)) -/

theorem execAll_append {is : List Instr} (js : List Instr) (h : execAll is s = .next t) :
    execAll (is ++ js) s = execAll js t := by
  induction is generalizing s with
  | nil => cases h; rfl
  | cons i is ih =>
    simp only [execAll, List.cons_append] at h ⊢
    cases hexec : exec i s with
    | next u => rw [hexec] at h; exact ih h
    | fault f => rw [hexec] at h; cases h
    | refused r => rw [hexec] at h; cases h

/-- What that many toggles after `s` leave: still in FLASH, each toggle counted, the needles untouched. -/
structure Toggled (s : State) (n : Nat) (t : State) : Prop where
  gameState : t.gameState = .flash
  fcnt : t.fcnt.toNat = s.fcnt.toNat + n
  fphase : t.fphase = (s.fphase ^^ (n % 2 == 1))
  valid : t.valid = s.valid

/-- One toggle before those that `h` counts. -/
theorem Toggled.after_toggle {u : State} {n : Nat} (level : Bool) (hmore : s.fcnt.toNat < 5)
    (h : Toggled (advanceSpin (flashToggle (sampleButton level s))) n u) : Toggled s (n + 1) u where
  gameState := h.gameState
  fcnt := by
    have hcount : u.fcnt.toNat = (s.fcnt + 1).toNat + n := h.fcnt
    bv_omega
  fphase := by
    have hphase : u.fphase = (!s.fphase ^^ (n % 2 == 1)) := h.fphase
    rw [hphase]
    rcases Nat.mod_two_eq_zero_or_one n with hn | hn <;> simp [Nat.add_mod, hn]
  valid := h.valid

/-- Frames short of the sixth toggle only toggle, whatever the button does. -/
theorem execAll_frames_toggled (levels : List Bool) (hflash : s.gameState = .flash)
    (hfew : s.fcnt.toNat + levels.length < 6) :
    ∃ t, execAll (levels.map Instr.frame) s = .next t ∧ Toggled s levels.length t := by
  induction levels generalizing s with
  | nil => exact ⟨s, rfl, ⟨hflash, rfl, by simp, rfl⟩⟩
  | cons level levels ih =>
    rw [List.length_cons] at hfew
    have hnext : (s.fcnt + 1).toNat = s.fcnt.toNat + 1 := by bv_omega
    obtain ⟨t, hrun, ht⟩ := ih (s := advanceSpin (flashToggle (sampleButton level s))) hflash
      (show (s.fcnt + 1).toNat + _ < 6 by omega)
    refine ⟨t, ?_, ht.after_toggle level (by omega)⟩
    rw [List.map_cons, execAll, exec_frame_toggle level hflash (by omega)]
    exact hrun

/-- Six frames from the entry of FLASH are five toggles and the exit. -/
theorem execAll_six_frames {levels : List Bool} (hflash : s.gameState = .flash) (hentry : s.fcnt = 0)
    (hsix : levels.length = 6) : ∃ u, execAll (levels.map Instr.frame) s = .next (exitFlash u) := by
  obtain ⟨first, last, rfl⟩ := (List.eq_nil_or_concat levels).resolve_left (by rintro rfl; cases hsix)
  have hfive : first.length = 5 := by simpa using hsix
  obtain ⟨u, hrun, hu⟩ := execAll_frames_toggled first hflash (by rw [hentry, hfive]; decide)
  have hlast : u.fcnt = 5 := BitVec.eq_of_toNat_eq (by rw [hu.fcnt, hentry, hfive]; rfl)
  refine ⟨u, ?_⟩
  rw [List.concat_eq_append, List.map_append, execAll_append _ hrun, List.map_singleton, execAll,
    exec_frame_leave last hu.gameState hlast]
  rfl

/-- Settles O18. -/
theorem flashLastsSixFrames : Obligations.FlashLastsSixFrames := by
  intro s levels hflash hentry hle
  rcases Nat.lt_or_eq_of_le hle with hfew | hsix
  · obtain ⟨t, hrun, ht⟩ := execAll_frames_toggled levels hflash (by rw [hentry]; simpa using hfew)
    have hcount : t.fcnt.toNat = levels.length := by rw [ht.fcnt, hentry]; simp
    exact ⟨t, hrun, fun _ => ⟨ht.gameState, hcount, ht.valid⟩, fun hsix => absurd hsix hfew.ne⟩
  · obtain ⟨u, hrun⟩ := execAll_six_frames hflash hentry hsix
    exact ⟨exitFlash u, hrun, fun hfew => absurd hsix hfew.ne,
      fun _ => ⟨rfl, valid_of_count_zero rfl, rfl, rfl, rfl, rfl⟩⟩

theorem no_collision_of_empty (c : Int) (hempty : s.count = 0) : collision c s = false := by
  rw [collision, valid_of_count_zero hempty]; rfl

/-- Settles O19: the exit clears the button memory and the needles, so the next frame is an edge that collides with
nothing. -/
theorem heldButtonPlacesAfterFlash : Obligations.HeldButtonPlacesAfterFlash := by
  intro s hflash hlast
  have hfree := no_collision_of_empty (candidate (exitFlash s)) (exitFlash_count s)
  have hroom : (exitFlash s).count.val < 30 := by rw [exitFlash_count]; decide
  refine ⟨placed true (exitFlash s), ?_, rfl, ?_, rfl⟩
  · simp only [execAll, exec_frame_leave true hflash hlast, exec_frame_place (exitFlash_gameState s) rfl hfree hroom]
  · rw [placed_valid true hroom, valid_of_count_zero (exitFlash_count s)]
    rfl

/-! ### The laws the document states (41_engine_ops.md R129) -/

theorem wrapLaw : WrapLaw := fun i => by
  rw [wrap_eq, wrap_eq]
  omega

theorem wrapDiffLaw : WrapDiffLaw := ⟨wrapDiff_range, wrapDiff_self⟩

theorem appendCollidesLaw : AppendCollidesLaw := fun _ _ h0 h24 hroom => collision_appendNeedle h0 h24 hroom

theorem capacityLaw : CapacityLaw := fun _ hfull hplay hprev =>
  ⟨_, exec_frame_fail hplay (by rw [hprev]; rfl) (.inr hfull), rfl, rfl, rfl⟩

theorem flashLaw : FlashLaw := by
  refine fun s levels hflash hentry => ⟨fun hfew => ?_, fun hsix => ?_⟩
  · obtain ⟨t, hrun, ht⟩ := execAll_frames_toggled levels hflash (by rw [hentry]; simpa using hfew)
    exact ⟨t, hrun, ht.gameState, ht.fphase⟩
  · obtain ⟨u, hrun⟩ := execAll_six_frames hflash hentry hsix
    exact ⟨exitFlash u, hrun, rfl, rfl, rfl⟩

/-- At SPIN 5 the candidate is 13; with no needle stored it is placed as entry 0 and rendered at 19. -/
theorem scenarioLaw : ScenarioLaw := by
  intro s hplay hempty hspin hprev
  have hroom : s.count.val < 30 := by rw [hempty]; decide
  have hedge : risingEdge s.btnPrev true = true := by rw [hprev]; rfl
  have hcount : (placed true s).count = s.count + 1 := rfl
  have hcand : slotBits (candidate s) = 13 := by rw [candidate_eq, hspin]; rfl
  have hentry := placed_entry true hroom
  have hrpos := exec_rpos_placed true hroom
  rw [hempty] at hcount hentry hrpos
  rw [hcand] at hentry
  refine ⟨placed true s, exec_frame_place hplay hedge (no_collision_of_empty _ hempty) hroom, hplay, hcount, hentry, ?_,
    hrpos⟩
  exact BitVec.eq_of_toNat_eq (by rw [placed_spin_toNat, hspin]; rfl)

/-- Settles O22. -/
theorem statedEngineLaws : Obligations.StatedEngineLaws :=
  ⟨wrapLaw, wrapDiffLaw, appendCollidesLaw, capacityLaw, flashLaw, scenarioLaw⟩

end Sys2Proof.Proofs
end

section
/-! PROOFS. Refusals and the entry of FLASH (60_exceptions.md): which words are no operation, what a refusal may change, and
that no operation stops the machine.

The idea: every effect of an operation is a refusal, which writes the mark and nothing else, or leaves the mark as it was
(`Effect.refused_or_kept`). So an operation that sets the mark did nothing else, and no step clears it. Of the effects only a
failed placement leads from PLAY to FLASH (`Effect.failed_of_enters_flash`). -/

namespace Sys2Proof.Proofs

open Sys2Proof.Machine Sys2Proof.Safety

variable {s t : State} {i : Instr} {w : ReqWord}

/-! ### Reserved OP values (30_encoding.md R61, R63, 60_exceptions.md R151) -/

theorem Decoded.op_mem_assignedOps (h : Decoded w i) : fieldOp w ∈ assignedOps := by
  cases h with
  | init hop | setrot hop | setwin hop | fillwin hop | fillscr hop | drawpix hop | pack565 hop | enginit hop | frame hop
  | wrap hop | wrapdiff hop | collide hop | rpos hop => rw [hop]; decide

theorem exists_decode_of_mem_assignedOps (h : fieldOp w ∈ assignedOps) : ∃ i, decode w = .ok i := by
  simp only [assignedOps, List.mem_cons, List.not_mem_nil, or_false] at h
  rcases h with hop | hop | hop | hop | hop | hop | hop | hop | hop | hop | hop | hop | hop <;>
    exact ⟨_, by rw [decode, hop]; rfl⟩

/-- The words of the thirteen operations are exactly those whose OP is assigned. -/
theorem exists_decode_error_iff (w : ReqWord) : (∃ e, decode w = .error e) ↔ fieldOp w ∉ assignedOps := by
  cases hd : decode w with
  | ok i => simpa using (decoded_of_decode hd).op_mem_assignedOps
  | error e =>
    refine iff_of_true ⟨e, rfl⟩ fun hop => ?_
    obtain ⟨i, hi⟩ := exists_decode_of_mem_assignedOps hop
    cases hd.symm.trans hi

theorem step_of_decode_error {e : DecodeError} {rest : List HostMove} (hm : s.moves = .request w :: rest)
    (hd : decode w = .error e) : step s = .next (retire (markRefused .reservedOpcode s)) := by
  rw [step_request hm, hd]; rfl

/-- Settles O4: a word that does not decode is refused and retired. -/
theorem reservedOpcodeRefused : Obligations.ReservedOpcodeRefused := by
  refine fun s w rest => ⟨exists_decode_error_iff w, fun hm hop => ?_⟩
  obtain ⟨e, hd⟩ := (exists_decode_error_iff w).2 hop
  rw [step_of_decode_error hm hd, retire, markRefused_moves, hm]
  rfl

/-! ### What a refusal changes (60_exceptions.md R145, R146, R147) -/

/-- Settles O26: the five operations are those that INIT must come before. -/
theorem notReadyRefused : Obligations.NotReadyRefused := by
  rintro s _ hready (⟨m, rfl⟩ | ⟨x0, y0, x1, y1, rfl⟩ | ⟨x0, y0, x1, y1, p, n, rfl⟩ | ⟨color, rfl⟩ | ⟨x, y, color, rfl⟩)
  · exact exec_of_notReady (.setrot m) hready
  · exact exec_of_notReady (.setwin x0 y0 x1 y1) hready
  · exact exec_of_notReady (.fillwin x0 y0 x1 y1 p n) hready
  · exact exec_of_notReady (.fillscr color) hready
  · exact exec_of_notReady (.drawpix x y color) hready

/-- An operation is refused, writing the mark alone, or leaves the mark as it was. -/
theorem Effect.refused_or_kept (h : Effect s i t) : (∃ r, t = markRefused r s) ∨ t.refused = s.refused := by
  cases h with
  | refused _ reason => exact .inl ⟨reason, rfl⟩
  | answer | emits | setrot | fillscr | init | enginit | spin | place | fail | toggle | leave => exact .inr rfl

/-- Settles O46: an effect that is no refusal does not set the mark. -/
theorem refusalIsAtomic : Obligations.RefusalIsAtomic := by
  intro i s t h hclear hset
  refine (exec_effect h).refused_or_kept.resolve_right fun hkept => ?_
  rw [hkept, hclear] at hset
  cases hset

theorem runDecoded_refused_or_kept (h : runDecoded (decode w) s = .next t) :
    (∃ r, t = markRefused r s) ∨ t.refused = s.refused := by
  rcases runDecoded_cases h with ⟨_, _, hexec⟩ | ⟨_, rfl⟩
  · exact (exec_effect hexec).refused_or_kept
  · exact .inl ⟨_, rfl⟩

/-- Settles O45: a request sets the mark or keeps it, and a wait and a host write keep it. -/
theorem refusedSticky : Obligations.RefusedSticky := by
  intro s t hset h
  rcases step_cases h with ⟨_, rfl⟩ | ⟨w, _, u, _, hrun, rfl⟩ | ⟨_, _, _, _, _, rfl⟩
  · exact hset
  · rcases runDecoded_refused_or_kept hrun with ⟨r, rfl⟩ | hkept
    · exact markRefused_refused s r
    · exact hkept.trans hset
  · exact hset

/-! ### No operation stops the machine (60_exceptions.md R140, R145) -/

/-- A guarded operation answers where its body does on a ready DRV: before INIT it is refused. -/
theorem whenReady_answers {body : State → Host.Outcome State Fault Refusal}
    (hbody : s.drvReady = true → ∃ t, body s = .next t) : ∃ t, whenReady s body = .next t := by
  cases hready : s.drvReady with
  | false => exact ⟨_, whenReady_notReady body hready⟩
  | true => rw [whenReady_ready body hready]; exact hbody hready

theorem exec_init_answers (width height : U16) (rotation : Byte) (s : State) :
    ∃ t, exec (.init width height rotation) s = .next t := by
  rw [exec, execInit, initOn]
  split <;> exact ⟨_, rfl⟩

theorem exec_setrot_answers (m : Byte) (s : State) : ∃ t, exec (.setrot m) s = .next t := by
  rw [exec, execSetrot, setrotOn]
  exact whenReady_answers fun _ => ⟨_, rfl⟩

theorem exec_setwin_answers (x0 y0 x1 y1 : U16) (s : State) : ∃ t, exec (.setwin x0 y0 x1 y1) s = .next t := by
  rw [exec, execSetwin, setwinOn]
  exact whenReady_answers fun _ => ⟨_, rfl⟩

theorem exec_fillwin_answers (x0 y0 x1 y1 : U16) (buffer count : Nat) (s : State) :
    ∃ t, exec (.fillwin x0 y0 x1 y1 buffer count) s = .next t := by
  rw [exec, execFillwin, fillwinOn]
  refine whenReady_answers fun _ => ?_
  split <;> exact ⟨_, rfl⟩

/-- The one operation with a fault branch: the hypothesis is what excludes it (10_state.md R16; log entry 15). -/
theorem exec_fillscr_answers (color : U16) (hwidth : s.drvReady = true → s.width.toNat ≤ Config.current.ctrlCols) :
    ∃ t, exec (.fillscr color) s = .next t := by
  rw [exec, execFillscr, fillscrOn]
  exact whenReady_answers fun hready => ⟨_, if_neg (hwidth hready).not_gt⟩

theorem exec_drawpix_answers (x y color : U16) (s : State) : ∃ t, exec (.drawpix x y color) s = .next t := by
  rw [exec, execDrawpix, drawpixOn]
  refine whenReady_answers fun _ => ?_
  split <;> exact ⟨_, rfl⟩

theorem exec_frame_answers (level : Bool) (s : State) : ∃ t, exec (.frame level) s = .next t := by
  cases hgame : s.gameState with
  | flash => exact ⟨_, exec_frame_of_flash level hgame⟩
  | play =>
    cases hedge : risingEdge s.btnPrev level with
    | false => exact ⟨_, exec_frame_spin hgame hedge⟩
    | true => exact ⟨_, exec_frame_of_edge hgame hedge⟩

theorem exec_rpos_answers (k : Nat) (s : State) : ∃ t, exec (.rpos k) s = .next t := by
  cases hk : s.valid[k]? with
  | none => exact ⟨_, exec_rpos_of_invalid hk⟩
  | some n => exact ⟨_, exec_rpos_of_valid hk⟩

/-- Settles O47: each operation answers, FILLSCR because the row buffer holds the panel's row. -/
theorem everyOperationAnswersNext : Obligations.EveryOperationAnswersNext := by
  intro i s hwidth
  cases i with
  | init width height rotation => exact exec_init_answers width height rotation s
  | setrot m => exact exec_setrot_answers m s
  | setwin x0 y0 x1 y1 => exact exec_setwin_answers x0 y0 x1 y1 s
  | fillwin x0 y0 x1 y1 buffer count => exact exec_fillwin_answers x0 y0 x1 y1 buffer count s
  | fillscr color => exact exec_fillscr_answers color hwidth
  | drawpix x y color => exact exec_drawpix_answers x y color s
  | frame level => exact exec_frame_answers level s
  | rpos k => exact exec_rpos_answers k s
  | pack565 | enginit | wrap | wrapdiff | collide => exact ⟨_, rfl⟩

/-! ### The entry of FLASH (60_exceptions.md R153) -/

theorem risingEdge_iff (btnPrev level : Bool) : risingEdge btnPrev level = true ↔ btnPrev = false ∧ level = true := by
  rw [risingEdge, Bool.and_eq_true, Bool.not_eq_true']

/-- The distance to a slot is that to any integer congruent to it. -/
theorem wrapDiff_wrap (a b : Int) : wrapDiff (wrap a) b = wrapDiff a b := by
  rw [wrapDiff_eq, wrapDiff_eq, wrap_eq, Int.emod_sub_emod]

/-- A collision of the candidate, in the entries and the spin it is computed from. -/
theorem collision_candidate_iff (s : State) :
    collision (candidate s) s = true ↔ Coincides (18 - (s.spin.toNat : Int)) s := by
  rw [collision_iff_coincides, Coincides, Coincides, candidate]
  simp only [wrapDiff_wrap]
  rfl

/-- From PLAY only a failed placement leads to FLASH. -/
theorem Effect.failed_of_enters_flash (h : Effect s i t) (hplay : s.gameState = .play) (hflash : t.gameState = .flash) :
    i = .frame true ∧ s.btnPrev = false ∧ (collision (candidate s) s = true ∨ s.count.val = 30)
      ∧ t = advanceSpin (enterFlash (sampleButton true s)) := by
  cases h with
  | fail level _ hedge hfail =>
    obtain ⟨hprev, rfl⟩ := (risingEdge_iff _ _).1 hedge
    exact ⟨rfl, hprev, hfail, rfl⟩
  | enginit | leave => cases hflash
  | toggle _ hs => cases hplay.symm.trans hs
  | refused | answer | emits | setrot | fillscr | init | spin | place => cases hplay.symm.trans hflash

/-- Settles O52: the failed placement tested the candidate of the old SPIN, and its update is the entry of FLASH. -/
theorem onlyFailedPlacementEntersFlash : Obligations.OnlyFailedPlacementEntersFlash := by
  intro i s t h hplay hflash
  obtain ⟨hi, hprev, hfail, rfl⟩ := (exec_effect h).failed_of_enters_flash hplay hflash
  exact ⟨hi, hprev, hfail.imp_left (collision_candidate_iff s).1, rfl⟩

end Sys2Proof.Proofs
end

section
/-! PROOFS. What every run keeps and how long it takes (70_reset_and_hazards.md): DRV's offsets agree with the
memory-access-control byte last sent, a list of requests runs to its end, and a full turn takes 24 frames.

The idea: every drawing operation opens with a window, whose first command ends any wait for a memory-access-control byte, and
then sends only pixels; so it moves that byte no more than it moves the offsets (`LeavesMadctl`). SETROT writes the byte and the
offsets together, and INIT ends in a SETROT and a drawing. A run then ends by induction on its requests: from `DrvInv` each
request answers, and keeps `DrvInv`. -/

namespace Sys2Proof.Proofs

open Sys2Proof.Machine Sys2Proof.Safety

variable {c : Cfg} {s t : State} {es : List Event} {w : ReqWord}

/-! ### The memory-access-control byte last sent (10_state.md R31 (a)) -/

theorem madctlStep_cmd_of_ne {k : Command} (hk : k ≠ .madctl) (acc : Bool × Option Byte) :
    madctlStep c acc (.cmd (c.cmd k)) = (false, acc.2) := by
  rw [madctlStep, beq_eq_false_iff_ne.2 ((cmd_injective c).ne hk)]

/-- Data that no memory-access-control command awaits are not its byte. -/
theorem madctlStep_data_unawaited (last : Option Byte) (bs : List Byte) :
    madctlStep c (false, last) (.data bs) = (false, last) := by
  cases bs <;> rfl

theorem madctl_foldl_pixelBursts (last : Option Byte) (h : ∀ e ∈ es, IsPixelBurst e) :
    es.foldl (madctlStep c) (false, last) = (false, last) := by
  induction es with
  | nil => rfl
  | cons e es ih =>
    obtain ⟨bs, rfl, _⟩ := h e List.mem_cons_self
    rw [List.foldl_cons, madctlStep_data_unawaited]
    exact ih fun e he => h e (List.mem_cons_of_mem _ he)

/-- A window's commands are no memory-access-control commands, and its first ends any wait for such a byte. -/
theorem madctl_foldl_setwinEvents (acc : Bool × Option Byte) (x0 y0 x1 y1 : U16) (s : State) :
    (setwinEvents c x0 y0 x1 y1 s).foldl (madctlStep c) acc = (false, acc.2) := by
  simp [setwinEvents, madctlStep_cmd_of_ne, madctlStep_data_unawaited]

/-- Events after which the memory-access-control byte last sent is what it was before them, whatever came before. -/
def LeavesMadctl (c : Cfg) (es : List Event) : Prop :=
  ∀ acc : Bool × Option Byte, (es.foldl (madctlStep c) acc).2 = acc.2

theorem leavesMadctl_window_pixels (x0 y0 x1 y1 : U16) (s : State) (h : ∀ e ∈ es, IsPixelBurst e) :
    LeavesMadctl c (setwinEvents c x0 y0 x1 y1 s ++ es) := fun acc => by
  rw [List.foldl_append, madctl_foldl_setwinEvents, madctl_foldl_pixelBursts _ h]

theorem leavesMadctl_bl (c : Cfg) (on : Bool) : LeavesMadctl c [.bl on] := fun _ => rfl

theorem LeavesMadctl.madctlOf_append (h : LeavesMadctl c es) (tx : List Event) :
    madctlOf c (tx ++ es) = madctlOf c tx := by
  rw [madctlOf, List.foldl_append]
  exact h _

theorem madctlOf_append_madctl (tx : List Event) (v : Byte) :
    madctlOf c (tx ++ [.cmd (c.cmd .madctl), .data [v]]) = some v := by
  simp [madctlOf, madctlStep]

/-! ### The registers of a ready DRV (70_reset_and_hazards.md R174) -/

/-- What `DrvInv` says of a ready DRV: the registers as INIT and SETROT leave them. -/
abbrev DriverSet (c : Cfg) (s : State) : Prop :=
  (1 ≤ s.width.toNat ∧ s.width.toNat ≤ c.ctrlCols) ∧ (1 ≤ s.height.toNat ∧ s.height.toNat ≤ ctrlRows)
    ∧ s.geom = c.geomClass s.width s.height
    ∧ (s.xstart, s.ystart) = c.offset s.geom s.width s.height s.rot
    ∧ madctlOf c s.tx = some (c.madctlData s.rot)

/-- `DrvInv` reads DRV only. -/
theorem drvInv_congr (h : SameDrv s t) (hs : DrvInv c s) : DrvInv c t := by
  obtain ⟨hready, hwidth, hheight, hgeom, hrot, hx, hy, _, htx, _⟩ := h
  rw [DrvInv, ← hready, ← hwidth, ← hheight, ← hgeom, ← hrot, ← hx, ← hy, ← htx]
  exact hs

theorem driverSet_emit (hes : LeavesMadctl c es) (hs : DriverSet c s) : DriverSet c (emit es s) := by
  obtain ⟨hwidth, hheight, hgeom, hpair, hbyte⟩ := hs
  exact ⟨hwidth, hheight, hgeom, hpair, (hes.madctlOf_append s.tx).trans hbyte⟩

/-- A window and its pixels, appended one after the other. -/
theorem driverSet_setwin_pixels (x0 y0 x1 y1 : U16) (h : ∀ e ∈ es, IsPixelBurst e) (hs : DriverSet c s) :
    DriverSet c (emit es (setwin c x0 y0 x1 y1 s)) := by
  rw [setwin, emit_emit]
  exact driverSet_emit (leavesMadctl_window_pixels x0 y0 x1 y1 s h) hs

theorem driverSet_setwin (x0 y0 x1 y1 : U16) (hs : DriverSet c s) : DriverSet c (setwin c x0 y0 x1 y1 s) :=
  emit_nil (setwin c x0 y0 x1 y1 s) ▸ driverSet_setwin_pixels x0 y0 x1 y1 nofun hs

theorem driverSet_fillscr (color : U16) (hs : DriverSet c s) : DriverSet c (fillscr c color s) :=
  driverSet_setwin_pixels (s := { s with rowbuf := Memory.fill s.rowbuf s.width.toNat color }) 0 0 _ _
    (fun _ => isPixelBurst_of_mem_rows) hs

/-- SETROT sets the offsets and sends the byte of one rotation, so it needs the panel only. -/
theorem driverSet_setrot (m : Byte) (hwidth : 1 ≤ s.width.toNat ∧ s.width.toNat ≤ c.ctrlCols)
    (hheight : 1 ≤ s.height.toNat ∧ s.height.toNat ≤ ctrlRows) (hgeom : s.geom = c.geomClass s.width s.height) :
    DriverSet c (setrot c m s) :=
  ⟨hwidth, hheight, hgeom, rfl, madctlOf_append_madctl s.tx _⟩

/-- INIT sets the panel, then the rotation; the drawing and the backlight after it leave both alone. -/
theorem driverSet_initialised {width height : U16} (rotation : Byte) (s : State)
    (hpanel : geometryUnsupported Config.current width height = false) :
    DriverSet Config.current (initialised width height rotation s) := by
  obtain ⟨hwidth, hheight⟩ := geometryUnsupported_eq_false_iff.1 hpanel
  have hset : DriverSet Config.current (broughtUp Config.current width height rotation s) :=
    driverSet_setrot rotation hwidth hheight rfl
  exact driverSet_emit (leavesMadctl_bl _ true) (driverSet_fillscr Config.current.bgColor hset)

/-- Every operation keeps the invariant of DRV. -/
theorem exec_drvInv {i : Instr} (h : exec i s = .next t) (hs : DrvInv Config.current s) : DrvInv Config.current t := by
  cases i with
  | init width height rotation =>
    rcases execInit_cases h with ⟨_, rfl⟩ | ⟨hpanel, _, rfl, rfl⟩
    · exact hs
    · exact fun _ => driverSet_initialised rotation s hpanel
  | setrot m =>
    rcases execSetrot_cases h with ⟨hready, rfl⟩ | ⟨_, rfl⟩
    · obtain ⟨hwidth, hheight, hgeom, _⟩ := hs hready
      exact fun _ => driverSet_setrot m hwidth hheight hgeom
    · exact hs
  | setwin x0 y0 x1 y1 =>
    rcases execSetwin_cases h with ⟨hready, rfl⟩ | ⟨_, rfl⟩
    · exact fun _ => driverSet_setwin x0 y0 x1 y1 (hs hready)
    · exact hs
  | fillwin x0 y0 x1 y1 buffer count =>
    rcases execFillwin_cases h with ⟨_, _, rfl⟩ | ⟨hready, _, rfl⟩ | ⟨_, rfl⟩
    · exact hs
    · exact fun _ => driverSet_setwin_pixels x0 y0 x1 y1 (fun _ => isPixelBurst_of_mem_stream) (hs hready)
    · exact hs
  | fillscr color =>
    rcases execFillscr_cases h with ⟨hready, _, rfl⟩ | ⟨_, rfl⟩
    · exact fun _ => driverSet_fillscr color (hs hready)
    · exact hs
  | drawpix x y color =>
    rcases execDrawpix_cases h with ⟨_, _, rfl⟩ | ⟨hready, _, rfl⟩ | ⟨_, rfl⟩
    · exact hs
    · have hpixel : IsPixelBurst (.data (be16 color)) := isPixelBurst_data (n := 1) rfl (by omega) (by omega)
      exact fun _ => driverSet_setwin_pixels x y x y (List.forall_mem_singleton.2 hpixel) (hs hready)
    · exact hs
  | pack565 => cases h; exact hs
  | enginit | frame | wrap | wrapdiff | collide | rpos => exact drvInv_congr (exec_sameDrv rfl h) hs

theorem runDecoded_drvInv (h : runDecoded (decode w) s = .next t) (hs : DrvInv Config.current s) :
    DrvInv Config.current t := by
  rcases runDecoded_cases h with ⟨_, _, hexec⟩ | ⟨_, rfl⟩
  · exact exec_drvInv hexec hs
  · exact hs

/-- Settles O57: a request keeps the invariant, and neither its retiring, nor a wait, nor a host write touches what the
invariant reads. -/
theorem driverInvariantKept : Obligations.DriverInvariantKept := by
  intro s t hs h
  rcases step_cases h with ⟨_, rfl⟩ | ⟨w, _, u, _, hrun, rfl⟩ | ⟨_, _, _, _, _, rfl⟩
  · exact hs
  · have hu : DrvInv Config.current u := runDecoded_drvInv hrun hs
    exact hu
  · exact hs

/-! ### A run of requests ends (70_reset_and_hazards.md R187) -/

/-- FILLSCR's row fits ROWBUF on a DRV set by INIT, so every word answers: an operation, or a refused OP. -/
theorem runDecoded_answers (w : ReqWord) (hs : DrvInv Config.current s) : ∃ t, runDecoded (decode w) s = .next t := by
  cases decode w with
  | error e => exact ⟨_, rfl⟩
  | ok i =>
    refine everyOperationAnswersNext i s fun hready => ?_
    obtain ⟨⟨_, hcols⟩, _⟩ := hs hready
    exact hcols

theorem step_request_answers {rest : List HostMove} (hm : s.moves = .request w :: rest)
    (hs : DrvInv Config.current s) : ∃ t, step s = .next t := by
  obtain ⟨u, hrun⟩ := runDecoded_answers w hs
  exact ⟨retire u, by rw [step_request hm, hrun, afterRequest]⟩

/-- As many steps as there are requests to come take them all. -/
theorem runSteps_requests (ws : List ReqWord) (hm : s.moves = ws.map .request) (hs : DrvInv Config.current s) :
    ∃ t, runSteps ws.length s = .next t ∧ t.moves = [] ∧ t.pc = s.pc + ws.length ∧ DrvInv Config.current t := by
  induction ws generalizing s with
  | nil => exact ⟨s, rfl, hm, rfl, hs⟩
  | cons w ws ih =>
    obtain ⟨u, hstep⟩ := step_request_answers hm hs
    obtain ⟨hpc, hrest⟩ := requestIndexAdvancesByOne s u w _ hm hstep
    obtain ⟨t, hrun, hmoves, hindex, ht⟩ := ih hrest (driverInvariantKept s u hs hstep)
    refine ⟨t, ?_, hmoves, ?_, ht⟩
    · rw [List.length_cons, runSteps, hstep]
      exact hrun
    · rw [hindex, hpc, List.length_cons]
      omega

/-- Settles O7: `DrvInv` does not read the host's moves, so it holds where the list has just been presented. -/
theorem requestListRunsToItsEnd : Obligations.RequestListRunsToItsEnd := by
  intro ws s hs
  exact runSteps_requests (s := { s with moves := ws.map .request }) ws rfl hs

/-! ### A full turn (70_reset_and_hazards.md R186) -/

/-- `s` after `n` frames of PLAY with the button at 0: the button memory cleared, SPIN `n` slots on. -/
def turned (n : Nat) (s : State) : State :=
  { s with btnPrev := false, spin := BitVec.ofNat 5 ((s.spin.toNat + n) % 24) }

theorem turned_spin_toNat (n : Nat) (s : State) : (turned n s).spin.toNat = (s.spin.toNat + n) % 24 := by
  simp only [turned, BitVec.toNat_ofNat]
  omega

theorem turned_turned (m n : Nat) (s : State) : turned n (turned m s) = turned (m + n) s := by
  rw [turned, turned_spin_toNat, Nat.mod_add_mod, Nat.add_assoc]
  rfl

theorem turned_full {s : State} (hspin : s.spin.toNat < 24) : turned 24 s = { s with btnPrev := false } := by
  rw [turned, Nat.add_mod_right, Nat.mod_eq_of_lt hspin, BitVec.ofNat_toNat, BitVec.setWidth_eq]

/-- The button at 0 makes no edge, whatever it was before. -/
theorem exec_frame_false (hplay : s.gameState = .play) : exec (.frame false) s = .next (turned 1 s) := by
  have hspin : (advanceSpin (sampleButton false s)).spin = (turned 1 s).spin :=
    BitVec.eq_of_toNat_eq ((advanceSpin_spin_toNat _).trans (turned_spin_toNat 1 s).symm)
  rw [exec_frame_spin hplay (by simp [risingEdge])]
  exact congrArg (fun k => Host.Outcome.next { s with btnPrev := false, spin := k }) hspin

theorem execAll_frames_turned (n : Nat) (hplay : s.gameState = .play) :
    execAll (List.replicate (n + 1) (.frame false)) s = .next (turned (n + 1) s) := by
  induction n generalizing s with
  | zero => rw [List.replicate_one, execAll, exec_frame_false hplay]; rfl
  | succ n ih =>
    rw [List.replicate_succ, execAll, exec_frame_false hplay, Nat.add_comm (n + 1) 1, ← turned_turned]
    exact ih hplay

/-- Settles O23: 24 slots on is the slot itself. -/
theorem fullTurnInTwentyFourFrames : Obligations.FullTurnInTwentyFourFrames := by
  intro s hplay hspin
  rw [execAll_frames_turned 23 hplay, turned_full hspin]

end Sys2Proof.Proofs
end
